-- ==== Sys2Proof/Word.lean ====
section
/-! DEFINITION. The bit-vector types of the ports (00_scope.md R7, 10_state.md R25, R26) and the tag of the six
formats (00_scope.md R2, R6). -/

namespace Sys2Proof

/-- One byte of an operand or result buffer. -/
abbrev Byte := BitVec 8

/-- The `cmd` port (30_encoding.md R55). -/
abbrev CommandWord := BitVec 16

/-- The `a_len` and `r_len` ports: 0 to 63 bytes (10_state.md R25, R26). -/
abbrev LenPort := BitVec 6

/-- The pattern buses `a_data` and `r_data`, `DATA_W` = 256 (00_scope.md R7). -/
abbrev DataBus := BitVec 256

/-- The exponent-field ports, `EXP_W` = 19 (00_scope.md R7). -/
abbrev ExpPort := BitVec 19

/-- The mantissa-field ports, `MANT_W` = 236 (00_scope.md R7). -/
abbrev MantPort := BitVec 236

/-- The six binary formats; no other width exists (00_scope.md R2). -/
inductive Format where
  | quarter
  | half
  | single
  | double
  | quadruple
  | octuple
  deriving DecidableEq, Repr

end Sys2Proof
end

