-- ==== Sys2Proof/Config.lean ====
section
/-! DEFINITION. The implementation parameters of 00_scope.md R7 that are a policy: each is a named constant, fixed in
the hardware and not selectable at run time. The canonical quiet NaN mantissa `CANON_QNAN_MANT(f)` depends on the format
and stands in Machine/Formats.lean; the port widths `DATA_W`, `EXP_W`, `MANT_W` are the types of Word.lean. -/

namespace Sys2Proof

/-- The rounding policies the hardware could name. One exists: "the design fixes one rounding/saturation policy". -/
inductive NarrowRounding where
  | truncate
  deriving DecidableEq, Repr

/-- What widening does with a NaN's payload. One policy exists. -/
inductive NanPayload where
  | preserve
  deriving DecidableEq, Repr

/-- `NARROW_ROUNDING` (00_scope.md R7, 42_convert.md R132). -/
def Config.narrowRounding : NarrowRounding := .truncate

/-- `WIDEN_NAN_PAYLOAD` (00_scope.md R7, 42_convert.md R126). -/
def Config.widenNanPayload : NanPayload := .preserve

/-- The reference value of `LATENCY` (00_scope.md R7, 70_reset_and_hazards.md R185): the machine of this package is the
reference form. Machine/Pipeline.lean takes any other value as an argument. -/
def Config.referenceLatency : Nat := 0

end Sys2Proof
end

