-- ==== Sys2Proof/Syntax.lean ====
section
/-! DEFINITION. The instructions: one constructor for each of the 60 legal command words of 30_encoding.md R61, in the
order of spec/opcode_table.json. A command word holds no operand (30_encoding.md R58), so no constructor has a field: the
operands arrive on the request ports. -/

namespace Sys2Proof

/-- One legal command word (30_encoding.md R61). `cvt16to8` is `CVT.16.8`: source width first. -/
inductive Instr where
  | unpack8
  | pack8
  | class8
  | cvt8to8
  | neg8
  | unpack16
  | pack16
  | class16
  | cvt16to8
  | neg16
  | unpack32
  | pack32
  | class32
  | cvt32to8
  | neg32
  | unpack64
  | pack64
  | class64
  | cvt64to8
  | neg64
  | unpack128
  | pack128
  | class128
  | cvt128to8
  | neg128
  | unpack256
  | pack256
  | class256
  | cvt256to8
  | neg256
  | cvt8to16
  | cvt16to16
  | cvt32to16
  | cvt64to16
  | cvt128to16
  | cvt256to16
  | cvt8to32
  | cvt16to32
  | cvt32to32
  | cvt64to32
  | cvt128to32
  | cvt256to32
  | cvt8to64
  | cvt16to64
  | cvt32to64
  | cvt64to64
  | cvt128to64
  | cvt256to64
  | cvt8to128
  | cvt16to128
  | cvt32to128
  | cvt64to128
  | cvt128to128
  | cvt256to128
  | cvt8to256
  | cvt16to256
  | cvt32to256
  | cvt64to256
  | cvt128to256
  | cvt256to256
  deriving DecidableEq, Repr

end Sys2Proof
end

