-- ==== Sys2Proof/WellFormed.lean ====
section
/-! DEFINITION. The fields of a command word (30_encoding.md R55) and when they are legal (30_encoding.md R59, R62).
An instruction of Syntax.lean has no field that could be ill-formed; what can be ill-formed is a command word, and this
is its check. -/

namespace Sys2Proof

/-- The four fields of the 16-bit command word, bits 15:10, 9:7, 6:4, 3:0 (30_encoding.md R55). -/
structure Command where
  zero : BitVec 6
  df : BitVec 3
  sf : BitVec 3
  op : BitVec 4
  deriving DecidableEq, Repr

/-- `legal` of 30_encoding.md R59. -/
def Command.wellFormed (c : Command) : Bool :=
  c.zero.toNat == 0 && c.op.toNat ≤ 4 && c.sf.toNat ≤ 5 &&
    (if c.op.toNat == 3 then decide (c.df.toNat ≤ 5) else c.df.toNat == 0)

end Sys2Proof
end

