-- ==== Sys2Proof/Decode.lean ====
section
/-! DEFINITION. Decoding of a command word, total on all 65536 of them and rejecting by name (30_encoding.md R55 to R62),
and after it the encoder, written out from the table of 30_encoding.md R61. -/

namespace Sys2Proof

/-- The fields of a command word (30_encoding.md R55). -/
def Command.ofWord (w : CommandWord) : Command where
  zero := w.extractLsb' 10 6
  df := w.extractLsb' 7 3
  sf := w.extractLsb' 4 3
  op := w.extractLsb' 0 4

/-- The number of a format in `sf` and `df` (30_encoding.md R57, 00_scope.md R6). -/
def Format.code : Format → Nat
  | .quarter => 0
  | .half => 1
  | .single => 2
  | .double => 3
  | .quadruple => 4
  | .octuple => 5

/-- The format a code names; codes 6 and 7 are reserved (30_encoding.md R57). -/
def Format.ofCode (c : BitVec 3) : Option Format :=
  match c.toNat with
  | 0 => some .quarter
  | 1 => some .half
  | 2 => some .single
  | 3 => some .double
  | 4 => some .quadruple
  | 5 => some .octuple
  | _ => none

/-- The five operations with the formats they are told to use (30_encoding.md R56). An `Instr` is one of these with its
formats fixed; this view lets a definition or a lemma speak of all formats at once. -/
inductive Op where
  | unpack (sf : Format)
  | pack (sf : Format)
  | classify (sf : Format)
  | cvt (sf df : Format)
  | neg (sf : Format)
  deriving DecidableEq, Repr

/-- The instruction that is operation `o` (the rows and columns of 30_encoding.md R61). -/
def Op.instr : Op → Instr
  | .unpack .quarter => .unpack8
  | .unpack .half => .unpack16
  | .unpack .single => .unpack32
  | .unpack .double => .unpack64
  | .unpack .quadruple => .unpack128
  | .unpack .octuple => .unpack256
  | .pack .quarter => .pack8
  | .pack .half => .pack16
  | .pack .single => .pack32
  | .pack .double => .pack64
  | .pack .quadruple => .pack128
  | .pack .octuple => .pack256
  | .classify .quarter => .class8
  | .classify .half => .class16
  | .classify .single => .class32
  | .classify .double => .class64
  | .classify .quadruple => .class128
  | .classify .octuple => .class256
  | .neg .quarter => .neg8
  | .neg .half => .neg16
  | .neg .single => .neg32
  | .neg .double => .neg64
  | .neg .quadruple => .neg128
  | .neg .octuple => .neg256
  | .cvt .quarter .quarter => .cvt8to8
  | .cvt .quarter .half => .cvt8to16
  | .cvt .quarter .single => .cvt8to32
  | .cvt .quarter .double => .cvt8to64
  | .cvt .quarter .quadruple => .cvt8to128
  | .cvt .quarter .octuple => .cvt8to256
  | .cvt .half .quarter => .cvt16to8
  | .cvt .half .half => .cvt16to16
  | .cvt .half .single => .cvt16to32
  | .cvt .half .double => .cvt16to64
  | .cvt .half .quadruple => .cvt16to128
  | .cvt .half .octuple => .cvt16to256
  | .cvt .single .quarter => .cvt32to8
  | .cvt .single .half => .cvt32to16
  | .cvt .single .single => .cvt32to32
  | .cvt .single .double => .cvt32to64
  | .cvt .single .quadruple => .cvt32to128
  | .cvt .single .octuple => .cvt32to256
  | .cvt .double .quarter => .cvt64to8
  | .cvt .double .half => .cvt64to16
  | .cvt .double .single => .cvt64to32
  | .cvt .double .double => .cvt64to64
  | .cvt .double .quadruple => .cvt64to128
  | .cvt .double .octuple => .cvt64to256
  | .cvt .quadruple .quarter => .cvt128to8
  | .cvt .quadruple .half => .cvt128to16
  | .cvt .quadruple .single => .cvt128to32
  | .cvt .quadruple .double => .cvt128to64
  | .cvt .quadruple .quadruple => .cvt128to128
  | .cvt .quadruple .octuple => .cvt128to256
  | .cvt .octuple .quarter => .cvt256to8
  | .cvt .octuple .half => .cvt256to16
  | .cvt .octuple .single => .cvt256to32
  | .cvt .octuple .double => .cvt256to64
  | .cvt .octuple .quadruple => .cvt256to128
  | .cvt .octuple .octuple => .cvt256to256

/-- The operation and formats of an instruction, read off its mnemonic (30_encoding.md R66). -/
def Instr.op : Instr → Op
  | .unpack8 => .unpack .quarter
  | .pack8 => .pack .quarter
  | .class8 => .classify .quarter
  | .cvt8to8 => .cvt .quarter .quarter
  | .neg8 => .neg .quarter
  | .unpack16 => .unpack .half
  | .pack16 => .pack .half
  | .class16 => .classify .half
  | .cvt16to8 => .cvt .half .quarter
  | .neg16 => .neg .half
  | .unpack32 => .unpack .single
  | .pack32 => .pack .single
  | .class32 => .classify .single
  | .cvt32to8 => .cvt .single .quarter
  | .neg32 => .neg .single
  | .unpack64 => .unpack .double
  | .pack64 => .pack .double
  | .class64 => .classify .double
  | .cvt64to8 => .cvt .double .quarter
  | .neg64 => .neg .double
  | .unpack128 => .unpack .quadruple
  | .pack128 => .pack .quadruple
  | .class128 => .classify .quadruple
  | .cvt128to8 => .cvt .quadruple .quarter
  | .neg128 => .neg .quadruple
  | .unpack256 => .unpack .octuple
  | .pack256 => .pack .octuple
  | .class256 => .classify .octuple
  | .cvt256to8 => .cvt .octuple .quarter
  | .neg256 => .neg .octuple
  | .cvt8to16 => .cvt .quarter .half
  | .cvt16to16 => .cvt .half .half
  | .cvt32to16 => .cvt .single .half
  | .cvt64to16 => .cvt .double .half
  | .cvt128to16 => .cvt .quadruple .half
  | .cvt256to16 => .cvt .octuple .half
  | .cvt8to32 => .cvt .quarter .single
  | .cvt16to32 => .cvt .half .single
  | .cvt32to32 => .cvt .single .single
  | .cvt64to32 => .cvt .double .single
  | .cvt128to32 => .cvt .quadruple .single
  | .cvt256to32 => .cvt .octuple .single
  | .cvt8to64 => .cvt .quarter .double
  | .cvt16to64 => .cvt .half .double
  | .cvt32to64 => .cvt .single .double
  | .cvt64to64 => .cvt .double .double
  | .cvt128to64 => .cvt .quadruple .double
  | .cvt256to64 => .cvt .octuple .double
  | .cvt8to128 => .cvt .quarter .quadruple
  | .cvt16to128 => .cvt .half .quadruple
  | .cvt32to128 => .cvt .single .quadruple
  | .cvt64to128 => .cvt .double .quadruple
  | .cvt128to128 => .cvt .quadruple .quadruple
  | .cvt256to128 => .cvt .octuple .quadruple
  | .cvt8to256 => .cvt .quarter .octuple
  | .cvt16to256 => .cvt .half .octuple
  | .cvt32to256 => .cvt .single .octuple
  | .cvt64to256 => .cvt .double .octuple
  | .cvt128to256 => .cvt .quadruple .octuple
  | .cvt256to256 => .cvt .octuple .octuple

/-- Why a command word is illegal: the clauses of 30_encoding.md R62, tested in the order of `legal` in R59. The response
does not say which one applied (60_exceptions.md R166); the reason is for a reader of the model. -/
inductive IllegalReason where
  /-- `cmd[15:10]` is not 0. -/
  | reservedBits
  /-- `op` is 5 to 15. -/
  | reservedOp
  /-- `sf` is 6 or 7. -/
  | reservedSource
  /-- `op` is 3 and `df` is 6 or 7. -/
  | reservedDestination
  /-- `op` is not 3 and `df` is not 0. -/
  | unusedDestination
  deriving DecidableEq, Repr

/-- The operation a legal `op` code selects, once its formats are known (30_encoding.md R56). The destination is read by
`CVT` alone. -/
def Op.ofCode (op : Nat) (sf df : Format) : Option Op :=
  match op with
  | 0 => some (.unpack sf)
  | 1 => some (.pack sf)
  | 2 => some (.classify sf)
  | 3 => some (.cvt sf df)
  | 4 => some (.neg sf)
  | _ => none

/-- The operation of a command (30_encoding.md R59, R62). -/
def Command.decode (c : Command) : Except IllegalReason Op :=
  if c.zero ≠ 0 then .error .reservedBits
  else if 4 < c.op.toNat then .error .reservedOp
  else
    match Format.ofCode c.sf with
    | none => .error .reservedSource
    | some sf =>
      match Format.ofCode c.df with
      | none => .error (if c.op = 3 then .reservedDestination else .unusedDestination)
      | some df =>
        if c.op ≠ 3 ∧ c.df ≠ 0 then .error .unusedDestination
        else
          match Op.ofCode c.op.toNat sf df with
          | some o => .ok o
          | none => .error .reservedOp

/-- The decoder: the instruction a command word is, or why it is none (30_encoding.md R59). -/
def decode (w : CommandWord) : Except IllegalReason Instr :=
  match (Command.ofWord w).decode with
  | .ok o => .ok o.instr
  | .error e => .error e

/-- The command word of an instruction, one row of 30_encoding.md R61 each. -/
def encode : Instr → CommandWord
  | .unpack8 => 0x0000#16
  | .pack8 => 0x0001#16
  | .class8 => 0x0002#16
  | .cvt8to8 => 0x0003#16
  | .neg8 => 0x0004#16
  | .unpack16 => 0x0010#16
  | .pack16 => 0x0011#16
  | .class16 => 0x0012#16
  | .cvt16to8 => 0x0013#16
  | .neg16 => 0x0014#16
  | .unpack32 => 0x0020#16
  | .pack32 => 0x0021#16
  | .class32 => 0x0022#16
  | .cvt32to8 => 0x0023#16
  | .neg32 => 0x0024#16
  | .unpack64 => 0x0030#16
  | .pack64 => 0x0031#16
  | .class64 => 0x0032#16
  | .cvt64to8 => 0x0033#16
  | .neg64 => 0x0034#16
  | .unpack128 => 0x0040#16
  | .pack128 => 0x0041#16
  | .class128 => 0x0042#16
  | .cvt128to8 => 0x0043#16
  | .neg128 => 0x0044#16
  | .unpack256 => 0x0050#16
  | .pack256 => 0x0051#16
  | .class256 => 0x0052#16
  | .cvt256to8 => 0x0053#16
  | .neg256 => 0x0054#16
  | .cvt8to16 => 0x0083#16
  | .cvt16to16 => 0x0093#16
  | .cvt32to16 => 0x00a3#16
  | .cvt64to16 => 0x00b3#16
  | .cvt128to16 => 0x00c3#16
  | .cvt256to16 => 0x00d3#16
  | .cvt8to32 => 0x0103#16
  | .cvt16to32 => 0x0113#16
  | .cvt32to32 => 0x0123#16
  | .cvt64to32 => 0x0133#16
  | .cvt128to32 => 0x0143#16
  | .cvt256to32 => 0x0153#16
  | .cvt8to64 => 0x0183#16
  | .cvt16to64 => 0x0193#16
  | .cvt32to64 => 0x01a3#16
  | .cvt64to64 => 0x01b3#16
  | .cvt128to64 => 0x01c3#16
  | .cvt256to64 => 0x01d3#16
  | .cvt8to128 => 0x0203#16
  | .cvt16to128 => 0x0213#16
  | .cvt32to128 => 0x0223#16
  | .cvt64to128 => 0x0233#16
  | .cvt128to128 => 0x0243#16
  | .cvt256to128 => 0x0253#16
  | .cvt8to256 => 0x0283#16
  | .cvt16to256 => 0x0293#16
  | .cvt32to256 => 0x02a3#16
  | .cvt64to256 => 0x02b3#16
  | .cvt128to256 => 0x02c3#16
  | .cvt256to256 => 0x02d3#16

/-- What the decoder reads from a word of the opcode table. There is one instruction length, 16 bits (30_encoding.md
R55), so the bits above `nbits` are 0 and a table row of more than 16 bits is no command word. -/
def decodeTableWord (nbits w : Nat) : Option Instr :=
  if nbits ≤ 16 then (decode (BitVec.ofNat 16 (w % 2 ^ nbits))).toOption else none

end Sys2Proof
end

