-- ==== Sys2Proof/Machine/Formats.lean ====
section
/-! DEFINITION. The parameters of the six formats (00_scope.md R6) and the format parameter of R7. -/

namespace Sys2Proof

/-- The width W in bits (00_scope.md R6). -/
abbrev Format.W : Format → Nat
  | .quarter => 8
  | .half => 16
  | .single => 32
  | .double => 64
  | .quadruple => 128
  | .octuple => 256

/-- The exponent-field width E (00_scope.md R6). -/
def Format.E : Format → Nat
  | .quarter => 4
  | .half => 5
  | .single => 8
  | .double => 11
  | .quadruple => 15
  | .octuple => 19

/-- The mantissa-field width M (00_scope.md R6). -/
def Format.M : Format → Nat
  | .quarter => 3
  | .half => 10
  | .single => 23
  | .double => 52
  | .quadruple => 112
  | .octuple => 236

/-- The bias B = 2^(E−1) − 1 (00_scope.md R6). -/
def Format.B (f : Format) : Nat := 2 ^ (f.E - 1) - 1

/-- The all-ones exponent field, EMAX = 2^E − 1 (00_scope.md R6). -/
def Format.EMAX (f : Format) : Nat := 2 ^ f.E - 1

/-- The number of bytes of a pattern, NB = W/8 (00_scope.md R6). -/
def Format.NB (f : Format) : Nat := f.W / 8

/-- `CANON_QNAN_MANT(f)`: the quiet bit alone (00_scope.md R7, 42_convert.md R128). -/
def Format.canonQnanMant (f : Format) : Nat := 2 ^ (f.M - 1)

/-- A W(f)-bit pattern (20_memory.md R41, R42). -/
abbrev Pattern (f : Format) := BitVec f.W

end Sys2Proof
end

