-- ==== Sys2Proof/Machine/Codec.lean ====
section
/-! DEFINITION. The field functions of the source's BitWidthCodec (40_codec.md R80 to R83, R86; 00_scope.md R13): pure
bit selection and concatenation, with no knowledge of special values. Fields are integers (00_scope.md R9), patterns are
bit vectors. -/

namespace Sys2Proof

/-- `sign(f, p) = p[W−1]` (40_codec.md R80). -/
def sign (f : Format) (p : Pattern f) : Bool := p.getLsbD (f.W - 1)

/-- `expf(f, p) = uint(p[W−2 : M])`, E bits (40_codec.md R81). -/
def expf (f : Format) (p : Pattern f) : Nat := (p.extractLsb' f.M f.E).toNat

/-- `mantf(f, p) = uint(p[M−1 : 0])` (40_codec.md R82). -/
def mantf (f : Format) (p : Pattern f) : Nat := (p.extractLsb' 0 f.M).toNat

/-- `mk(f, s, e, m) = {s, trunc_E(e), trunc_M(m)}` (40_codec.md R86). The spec defines it for fields in range; a field
out of range is truncated here, and no operation passes one (notes/assumptions/11.md). -/
def mk (f : Format) (s : Bool) (e m : Nat) : Pattern f :=
  ((BitVec.ofBool s ++ BitVec.ofNat f.E e) ++ BitVec.ofNat f.M m).setWidth f.W

/-- `floor_log2(n)`, the position of the most significant 1 bit of n ≥ 1 (00_scope.md R9). -/
def floorLog2 (n : Nat) : Nat := Nat.log2 n

end Sys2Proof
end

