-- ==== Sys2Proof/Machine/Flags.lean ====
section
/-! DEFINITION. The class of a pattern, its code and the two predicates (41_classify.md R100 to R102, R105). The block has
no flag that persists (10_state.md R23); these are the per-request results on `o_cls`, `o_fin` and `o_int`. -/

namespace Sys2Proof

/-- The six classes (41_classify.md R100). -/
inductive FpClass where
  | zero
  | subnormal
  | normal
  | infinite
  | qnan
  | snan
  deriving DecidableEq, Repr

/-- `class(f, p)` (41_classify.md R100). -/
def classify (f : Format) (p : Pattern f) : FpClass :=
  if expf f p = 0 then (if mantf f p = 0 then .zero else .subnormal)
  else if expf f p < f.EMAX then .normal
  else if mantf f p = 0 then .infinite
  else if p.getLsbD (f.M - 1) then .qnan
  else .snan

/-- The code of a class on `o_cls`; 6 and 7 are never driven (41_classify.md R101). -/
def FpClass.code : FpClass → BitVec 3
  | .zero => 0
  | .subnormal => 1
  | .normal => 2
  | .infinite => 3
  | .qnan => 4
  | .snan => 5

/-- "NaN" means QNAN or SNAN (41_classify.md R101). -/
def FpClass.isNaN : FpClass → Bool
  | .qnan => true
  | .snan => true
  | .zero => false
  | .subnormal => false
  | .normal => false
  | .infinite => false

/-- Zero, Subnormal or Normal (41_classify.md R102). -/
def FpClass.isFinite : FpClass → Bool
  | .zero => true
  | .subnormal => true
  | .normal => true
  | .infinite => false
  | .qnan => false
  | .snan => false

/-- `finite(f, p)` (41_classify.md R102). -/
def isFinite (f : Format) (p : Pattern f) : Bool := (classify f p).isFinite

/-- Whether a Normal with unbiased exponent `x` and mantissa field `m` is an integer (41_classify.md R105, from its third
line on). -/
def normalIsInteger (f : Format) (x : Int) (m : Nat) : Bool :=
  if (f.M : Int) ≤ x then true
  else if x < 0 then false
  else m % 2 ^ ((f.M : Int) - x).toNat == 0

/-- `integer(f, p)`, the bit-level form (41_classify.md R105). -/
def isInteger (f : Format) (p : Pattern f) : Bool :=
  match classify f p with
  | .zero => true
  | .normal => normalIsInteger f ((expf f p : Int) - f.B) (mantf f p)
  | .subnormal => false
  | .infinite => false
  | .qnan => false
  | .snan => false

end Sys2Proof
end

