-- ==== Sys2Proof/Machine/State.lean ====
section
/-! DEFINITION. State. The block has no architectural state (10_state.md R20); what a step takes and what it yields are
the values on its ports (10_state.md R25, R26), and these are what State holds (notes/assumptions/1.md). There is no
register, no program counter, no flag and no memory to hold (10_state.md R21 to R23, R33 to R35, 20_memory.md R40). -/

namespace Sys2Proof.Machine

/-- The request ports, inputs of the block (10_state.md R25). One-bit ports are Booleans: 1 is `true`. -/
structure RequestPorts where
  /-- `req_valid`: a request is presented -/
  reqValid : Bool
  /-- `cmd`: the command word -/
  cmd : CommandWord
  /-- `a_len`: number of bytes in the operand buffer -/
  aLen : LenPort
  /-- `a_data`: the operand buffer, right-justified -/
  aData : DataBus
  /-- `f_sign`: sign to pack -/
  fSign : Bool
  /-- `f_exp`: exponent field to pack -/
  fExp : ExpPort
  /-- `f_mant`: mantissa field to pack -/
  fMant : MantPort
  deriving DecidableEq, Repr

/-- The response ports, outputs of the block (10_state.md R26). -/
structure ResponsePorts where
  /-- `rsp_valid`: the other ports answer a request -/
  rspValid : Bool
  /-- `err`: error code, 0 = no error -/
  err : BitVec 2
  /-- `r_len`: number of bytes in the result buffer -/
  rLen : LenPort
  /-- `r_data`: the result buffer -/
  rData : DataBus
  /-- `o_sign`: extracted sign -/
  oSign : Bool
  /-- `o_exp`: extracted exponent field -/
  oExp : ExpPort
  /-- `o_mant`: extracted mantissa field -/
  oMant : MantPort
  /-- `o_cls`: class code -/
  oCls : BitVec 3
  /-- `o_fin`: the pattern is finite -/
  oFin : Bool
  /-- `o_int`: the pattern is integer-valued -/
  oInt : Bool
  deriving DecidableEq, Repr

/-- Every request port 0: no request is presented. -/
def RequestPorts.zero : RequestPorts where
  reqValid := false
  cmd := 0
  aLen := 0
  aData := 0
  fSign := false
  fExp := 0
  fMant := 0

/-- The idle response: `rsp_valid` = 0 and every other response port 0 (10_state.md R31). -/
def ResponsePorts.idle : ResponsePorts where
  rspValid := false
  err := 0
  rLen := 0
  rData := 0
  oSign := false
  oExp := 0
  oMant := 0
  oCls := 0
  oFin := false
  oInt := false

/-- The values on the ports: the request the host presents now and the response of the last step. -/
structure State where
  req : RequestPorts
  rsp : ResponsePorts
  deriving DecidableEq, Repr

/-- Reasons for the machine to stop. There are none, and so no constructor: an error of this block is a response, after
which "the block is exactly as it was" (60_exceptions.md R170, R171), and it cannot hang (70_reset_and_hazards.md R187).
Nothing raises a fault; an empty type is the safe and the exact choice (notes/assumptions/6.md). -/
inductive Fault where
  deriving DecidableEq, Repr

/-- Reasons for the model to give an instruction no meaning. -/
inductive Refusal where
  /-- Raised by an arm of `exec` that has no meaning yet, with its row's mnemonic. No arm raises it: every instruction has
  its meaning. Safe: the model would stop where the hardware goes on. -/
  | notModelled (mnemonic : String)
  deriving DecidableEq, Repr

/-- The block before its first request. It has no state to reset (10_state.md R36, 70_reset_and_hazards.md R180); the
request ports are the host's, taken as all 0 here (DESIGN CHOICE, notes/assumptions/2.md), and with `req_valid` = 0 the
response ports are idle (70_reset_and_hazards.md R181, notes/assumptions/3.md). -/
def State.reset : State where
  req := .zero
  rsp := .idle

end Sys2Proof.Machine
end

