-- ==== Sys2Proof/Machine/Ops.lean ====
section
/-! DEFINITION. The shared operations over the ports: presenting a request, driving a response, the error response (the
block's whole notion of taking an exception, 60_exceptions.md R165, R170), and the result buffer. There is no return from
an exception to model (60_exceptions.md R171) and no register or memory to read or write (00_scope.md R12). -/

namespace Sys2Proof.Machine

/-- The errors a request can end in (60_exceptions.md R160). -/
inductive ErrorCode where
  /-- raised by decode (R161) -/
  | illegalCommand
  /-- raised by `UNPACK`, `CLASS`, `CVT`, `NEG` (R162) -/
  | lengthError
  /-- raised by `PACK` (R163) -/
  | fieldError
  deriving DecidableEq, Repr

/-- The value of an error on `err` (60_exceptions.md R160). -/
def ErrorCode.code : ErrorCode → BitVec 2
  | .illegalCommand => 1
  | .lengthError => 2
  | .fieldError => 3

/-- The host puts a request on the request ports (10_state.md R24, R25). -/
def State.present (s : State) (q : RequestPorts) : State := { s with req := q }

/-- The block drives its response ports (00_scope.md R11). It never writes a request port. -/
def State.drive (s : State) (r : ResponsePorts) : State := { s with rsp := r }

/-- `raise <Error>`: the error response, every port but `rsp_valid` and `err` 0 (60_exceptions.md R165). -/
def raise (e : ErrorCode) : ResponsePorts := { ResponsePorts.idle with rspValid := true, err := e.code }

/-- The response of a request that raises nothing, before its operation drives a port: `rsp_valid` = 1, the rest 0
(10_state.md R30). -/
def ResponsePorts.accepted : ResponsePorts := { ResponsePorts.idle with rspValid := true }

/-- The result buffer: `r_len <- NB(f)`, `r_data <- zext_256(p)` (10_state.md R28). -/
def ResponsePorts.withResult (r : ResponsePorts) (f : Format) (p : Pattern f) : ResponsePorts :=
  { r with rLen := BitVec.ofNat 6 f.NB, rData := p.setWidth 256 }

/-- The response an operation ends in: what it drives, or the error response. -/
def responseOf : Except ErrorCode ResponsePorts → ResponsePorts
  | .ok r => r
  | .error e => raise e

/-- A request is answered by exactly one response, and the block goes on (10_state.md R32, 60_exceptions.md R171). -/
def answer (s : State) (x : Except ErrorCode ResponsePorts) : Host.Outcome State Fault Refusal :=
  .next (s.drive (responseOf x))

/-- The answer to an illegal command word (60_exceptions.md R161). -/
def answerIllegal (s : State) : Host.Outcome State Fault Refusal := answer s (.error .illegalCommand)

/-- No request: the idle response (10_state.md R31). -/
def answerIdle (s : State) : Host.Outcome State Fault Refusal := .next (s.drive .idle)

end Sys2Proof.Machine
end

