-- ==== Sys2Proof/Machine/Operands.lean ====
section
/-! DEFINITION. The operand and result buffers: byte order, the view of a buffer as bytes, and the length check
(10_state.md R27, R28, 20_memory.md R41, R43). -/

namespace Sys2Proof.Machine

/-- A list of bytes, first byte most significant, as one number (20_memory.md R41). -/
def bigEndian (bs : List Byte) : Nat := bs.foldl (fun n b => 256 * n + b.toNat) 0

/-- Byte `i` of an `n`-byte buffer right-justified on a bus: `bus[8(n−i)−1 : 8(n−i−1)]` (10_state.md R27, R28). -/
def bufferByte (n : Nat) (bus : DataBus) (i : Nat) : Byte := bus.extractLsb' (8 * (n - i - 1)) 8

/-- Byte `i` of the operand buffer, for `i < a_len ≤ 32` (10_state.md R27). -/
def RequestPorts.operandByte (q : RequestPorts) (i : Nat) : Byte := bufferByte q.aLen.toNat q.aData i

/-- Byte `i` of the result buffer, for `i < r_len` (10_state.md R28). -/
def ResponsePorts.resultByte (r : ResponsePorts) (i : Nat) : Byte := bufferByte r.rLen.toNat r.rData i

/-- A request that presents `bs` as its operand buffer, right-justified (10_state.md R27). -/
def RequestPorts.withBuffer (q : RequestPorts) (bs : List Byte) : RequestPorts :=
  { q with aLen := BitVec.ofNat 6 bs.length, aData := BitVec.ofNat 256 (bigEndian bs) }

/-- `operand(f)`: the pattern of the operand buffer, after the length check; the bits of `a_data` above it are ignored
(20_memory.md R43, 10_state.md R27). -/
def operand (f : Format) (q : RequestPorts) : Except ErrorCode (Pattern f) :=
  if q.aLen.toNat = f.NB then .ok (q.aData.setWidth f.W) else .error .lengthError

/-- An operation on the pattern of the operand buffer: nothing else of the response is computed when the length check
fails (20_memory.md R43). -/
def onOperand (f : Format) (q : RequestPorts) (k : Pattern f → ResponsePorts) : Except ErrorCode ResponsePorts :=
  match operand f q with
  | .ok p => .ok (k p)
  | .error e => .error e

end Sys2Proof.Machine
end

