-- ==== Sys2Proof/Machine/Class.lean ====
section
/-! DEFINITION. `CLASS.<w>` (41_classify.md R106). -/

namespace Sys2Proof.Machine

/-- `CLASS(f)`: class code, `isFinite`, `isInteger`, sign, and the echo of the operand, which together are the read-only
snapshot of 60_exceptions.md R176 (41_classify.md R106). -/
def classOf (f : Format) (q : RequestPorts) : Except ErrorCode ResponsePorts :=
  onOperand f q fun p =>
    { ResponsePorts.accepted.withResult f p with
      oCls := (classify f p).code
      oFin := isFinite f p
      oInt := isInteger f p
      oSign := sign f p }

/-- `CLASS.8` (41_classify.md R106). -/
def execClass8 (s : State) : Host.Outcome State Fault Refusal := answer s (classOf .quarter s.req)

/-- `CLASS.16` (41_classify.md R106). -/
def execClass16 (s : State) : Host.Outcome State Fault Refusal := answer s (classOf .half s.req)

/-- `CLASS.32` (41_classify.md R106). -/
def execClass32 (s : State) : Host.Outcome State Fault Refusal := answer s (classOf .single s.req)

/-- `CLASS.64` (41_classify.md R106). -/
def execClass64 (s : State) : Host.Outcome State Fault Refusal := answer s (classOf .double s.req)

/-- `CLASS.128` (41_classify.md R106). -/
def execClass128 (s : State) : Host.Outcome State Fault Refusal := answer s (classOf .quadruple s.req)

/-- `CLASS.256` (41_classify.md R106). -/
def execClass256 (s : State) : Host.Outcome State Fault Refusal := answer s (classOf .octuple s.req)

end Sys2Proof.Machine
end

