-- ==== Sys2Proof/Machine/Convert.lean ====
section
/-! DEFINITION. Width conversion, `CVT.<ws>.<wd>` (42_convert.md). Exponents are integers (00_scope.md R9). -/

namespace Sys2Proof.Machine

/-- Shift right by `k` bits under a rounding policy: truncation discards the bits shifted out (42_convert.md R132). -/
def roundShift : NarrowRounding → Nat → Nat → Nat
  | .truncate, n, k => n >>> k

/-- The payload a NaN has after widening from `sf` to `df` (42_convert.md R126). -/
def widenPayload : NanPayload → Format → Format → Nat → Nat
  | .preserve, sf, df, m => m <<< (df.M - sf.M)

/-- Widening a Normal (42_convert.md R124). -/
def widenNormal (sf df : Format) (s : Bool) (e m : Nat) : Pattern df :=
  mk df s ((e : Int) - sf.B + df.B).toNat (m <<< (df.M - sf.M))

/-- Widening a Subnormal: the leading 1 becomes the implicit bit (42_convert.md R125). -/
def widenSubnormal (sf df : Format) (s : Bool) (m : Nat) : Pattern df :=
  mk df s ((floorLog2 m : Int) + 1 - sf.B - sf.M + df.B).toNat ((m - 2 ^ floorLog2 m) <<< (df.M - floorLog2 m))

/-- `widen(sf, df, p)` (42_convert.md R122). -/
def widen (sf df : Format) (p : Pattern sf) : Pattern df :=
  match classify sf p with
  | .zero => mk df (sign sf p) 0 0
  | .infinite => mk df (sign sf p) df.EMAX 0
  | .qnan => mk df (sign sf p) df.EMAX (widenPayload Config.widenNanPayload sf df (mantf sf p))
  | .snan => mk df (sign sf p) df.EMAX (widenPayload Config.widenNanPayload sf df (mantf sf p))
  | .normal => widenNormal sf df (sign sf p) (expf sf p) (mantf sf p)
  | .subnormal => widenSubnormal sf df (sign sf p) (mantf sf p)

/-- Narrowing a Normal whose rebiased exponent is `e2`, which may be 0 or negative (42_convert.md R127, R130). -/
def narrowNormal (sf df : Format) (s : Bool) (e2 : Int) (m : Nat) : Pattern df :=
  if (df.EMAX : Int) ≤ e2 then mk df s df.EMAX 0
  else if 1 ≤ e2 then mk df s e2.toNat (roundShift Config.narrowRounding m (sf.M - df.M))
  else mk df s 0 (roundShift Config.narrowRounding (2 ^ sf.M + m) ((sf.M : Int) - df.M + (1 - e2)).toNat)

/-- `narrow(sf, df, p)` (42_convert.md R127). -/
def narrow (sf df : Format) (p : Pattern sf) : Pattern df :=
  match classify sf p with
  | .qnan => mk df (sign sf p) df.EMAX df.canonQnanMant
  | .snan => mk df (sign sf p) df.EMAX df.canonQnanMant
  | .infinite => mk df (sign sf p) df.EMAX 0
  | .zero => mk df (sign sf p) 0 0
  | .subnormal => mk df (sign sf p) 0 0
  | .normal => narrowNormal sf df (sign sf p) ((expf sf p : Int) - sf.B + df.B) (mantf sf p)

/-- The pattern `CVT` gives: the identity, `widen` or `narrow` by the widths (42_convert.md R120, R121). At equal widths
the formats are the same and `setWidth` changes nothing. -/
def convert (sf df : Format) (p : Pattern sf) : Pattern df :=
  if df.W = sf.W then p.setWidth df.W
  else if sf.W < df.W then widen sf df p
  else narrow sf df p

/-- `CVT(sf, df)` (42_convert.md R120). -/
def cvt (sf df : Format) (q : RequestPorts) : Except ErrorCode ResponsePorts :=
  onOperand sf q fun p => ResponsePorts.accepted.withResult df (convert sf df p)

/-- `CVT.8.8` (42_convert.md R120, R121). -/
def execCvt8to8 (s : State) : Host.Outcome State Fault Refusal := answer s (cvt .quarter .quarter s.req)

/-- `CVT.16.8` (42_convert.md R120, R127). -/
def execCvt16to8 (s : State) : Host.Outcome State Fault Refusal := answer s (cvt .half .quarter s.req)

/-- `CVT.32.8` (42_convert.md R120, R127). -/
def execCvt32to8 (s : State) : Host.Outcome State Fault Refusal := answer s (cvt .single .quarter s.req)

/-- `CVT.64.8` (42_convert.md R120, R127). -/
def execCvt64to8 (s : State) : Host.Outcome State Fault Refusal := answer s (cvt .double .quarter s.req)

/-- `CVT.128.8` (42_convert.md R120, R127). -/
def execCvt128to8 (s : State) : Host.Outcome State Fault Refusal := answer s (cvt .quadruple .quarter s.req)

/-- `CVT.256.8` (42_convert.md R120, R127). -/
def execCvt256to8 (s : State) : Host.Outcome State Fault Refusal := answer s (cvt .octuple .quarter s.req)

/-- `CVT.8.16` (42_convert.md R120, R122). -/
def execCvt8to16 (s : State) : Host.Outcome State Fault Refusal := answer s (cvt .quarter .half s.req)

/-- `CVT.16.16` (42_convert.md R120, R121). -/
def execCvt16to16 (s : State) : Host.Outcome State Fault Refusal := answer s (cvt .half .half s.req)

/-- `CVT.32.16` (42_convert.md R120, R127). -/
def execCvt32to16 (s : State) : Host.Outcome State Fault Refusal := answer s (cvt .single .half s.req)

/-- `CVT.64.16` (42_convert.md R120, R127). -/
def execCvt64to16 (s : State) : Host.Outcome State Fault Refusal := answer s (cvt .double .half s.req)

/-- `CVT.128.16` (42_convert.md R120, R127). -/
def execCvt128to16 (s : State) : Host.Outcome State Fault Refusal := answer s (cvt .quadruple .half s.req)

/-- `CVT.256.16` (42_convert.md R120, R127). -/
def execCvt256to16 (s : State) : Host.Outcome State Fault Refusal := answer s (cvt .octuple .half s.req)

/-- `CVT.8.32` (42_convert.md R120, R122). -/
def execCvt8to32 (s : State) : Host.Outcome State Fault Refusal := answer s (cvt .quarter .single s.req)

/-- `CVT.16.32` (42_convert.md R120, R122). -/
def execCvt16to32 (s : State) : Host.Outcome State Fault Refusal := answer s (cvt .half .single s.req)

/-- `CVT.32.32` (42_convert.md R120, R121). -/
def execCvt32to32 (s : State) : Host.Outcome State Fault Refusal := answer s (cvt .single .single s.req)

/-- `CVT.64.32` (42_convert.md R120, R127). -/
def execCvt64to32 (s : State) : Host.Outcome State Fault Refusal := answer s (cvt .double .single s.req)

/-- `CVT.128.32` (42_convert.md R120, R127). -/
def execCvt128to32 (s : State) : Host.Outcome State Fault Refusal := answer s (cvt .quadruple .single s.req)

/-- `CVT.256.32` (42_convert.md R120, R127). -/
def execCvt256to32 (s : State) : Host.Outcome State Fault Refusal := answer s (cvt .octuple .single s.req)

/-- `CVT.8.64` (42_convert.md R120, R122). -/
def execCvt8to64 (s : State) : Host.Outcome State Fault Refusal := answer s (cvt .quarter .double s.req)

/-- `CVT.16.64` (42_convert.md R120, R122). -/
def execCvt16to64 (s : State) : Host.Outcome State Fault Refusal := answer s (cvt .half .double s.req)

/-- `CVT.32.64` (42_convert.md R120, R122). -/
def execCvt32to64 (s : State) : Host.Outcome State Fault Refusal := answer s (cvt .single .double s.req)

/-- `CVT.64.64` (42_convert.md R120, R121). -/
def execCvt64to64 (s : State) : Host.Outcome State Fault Refusal := answer s (cvt .double .double s.req)

/-- `CVT.128.64` (42_convert.md R120, R127). -/
def execCvt128to64 (s : State) : Host.Outcome State Fault Refusal := answer s (cvt .quadruple .double s.req)

/-- `CVT.256.64` (42_convert.md R120, R127). -/
def execCvt256to64 (s : State) : Host.Outcome State Fault Refusal := answer s (cvt .octuple .double s.req)

/-- `CVT.8.128` (42_convert.md R120, R122). -/
def execCvt8to128 (s : State) : Host.Outcome State Fault Refusal := answer s (cvt .quarter .quadruple s.req)

/-- `CVT.16.128` (42_convert.md R120, R122). -/
def execCvt16to128 (s : State) : Host.Outcome State Fault Refusal := answer s (cvt .half .quadruple s.req)

/-- `CVT.32.128` (42_convert.md R120, R122). -/
def execCvt32to128 (s : State) : Host.Outcome State Fault Refusal := answer s (cvt .single .quadruple s.req)

/-- `CVT.64.128` (42_convert.md R120, R122). -/
def execCvt64to128 (s : State) : Host.Outcome State Fault Refusal := answer s (cvt .double .quadruple s.req)

/-- `CVT.128.128` (42_convert.md R120, R121). -/
def execCvt128to128 (s : State) : Host.Outcome State Fault Refusal := answer s (cvt .quadruple .quadruple s.req)

/-- `CVT.256.128` (42_convert.md R120, R127). -/
def execCvt256to128 (s : State) : Host.Outcome State Fault Refusal := answer s (cvt .octuple .quadruple s.req)

/-- `CVT.8.256` (42_convert.md R120, R122). -/
def execCvt8to256 (s : State) : Host.Outcome State Fault Refusal := answer s (cvt .quarter .octuple s.req)

/-- `CVT.16.256` (42_convert.md R120, R122). -/
def execCvt16to256 (s : State) : Host.Outcome State Fault Refusal := answer s (cvt .half .octuple s.req)

/-- `CVT.32.256` (42_convert.md R120, R122). -/
def execCvt32to256 (s : State) : Host.Outcome State Fault Refusal := answer s (cvt .single .octuple s.req)

/-- `CVT.64.256` (42_convert.md R120, R122). -/
def execCvt64to256 (s : State) : Host.Outcome State Fault Refusal := answer s (cvt .double .octuple s.req)

/-- `CVT.128.256` (42_convert.md R120, R122). -/
def execCvt128to256 (s : State) : Host.Outcome State Fault Refusal := answer s (cvt .quadruple .octuple s.req)

/-- `CVT.256.256` (42_convert.md R120, R121). -/
def execCvt256to256 (s : State) : Host.Outcome State Fault Refusal := answer s (cvt .octuple .octuple s.req)

end Sys2Proof.Machine
end

