-- ==== Sys2Proof/Machine/Negate.lean ====
section
/-! DEFINITION. `NEG.<w>` (43_negate.md R150). -/

namespace Sys2Proof.Machine

/-- The pattern with bit W−1 inverted and the other bits copied (43_negate.md R150). -/
def negate (f : Format) (p : Pattern f) : Pattern f := p ^^^ BitVec.twoPow f.W (f.W - 1)

/-- `NEG(f)` (43_negate.md R150). -/
def neg (f : Format) (q : RequestPorts) : Except ErrorCode ResponsePorts :=
  onOperand f q fun p => ResponsePorts.accepted.withResult f (negate f p)

/-- `NEG.8` (43_negate.md R150). -/
def execNeg8 (s : State) : Host.Outcome State Fault Refusal := answer s (neg .quarter s.req)

/-- `NEG.16` (43_negate.md R150). -/
def execNeg16 (s : State) : Host.Outcome State Fault Refusal := answer s (neg .half s.req)

/-- `NEG.32` (43_negate.md R150). -/
def execNeg32 (s : State) : Host.Outcome State Fault Refusal := answer s (neg .single s.req)

/-- `NEG.64` (43_negate.md R150). -/
def execNeg64 (s : State) : Host.Outcome State Fault Refusal := answer s (neg .double s.req)

/-- `NEG.128` (43_negate.md R150). -/
def execNeg128 (s : State) : Host.Outcome State Fault Refusal := answer s (neg .quadruple s.req)

/-- `NEG.256` (43_negate.md R150). -/
def execNeg256 (s : State) : Host.Outcome State Fault Refusal := answer s (neg .octuple s.req)

end Sys2Proof.Machine
end

