-- ==== Sys2Proof/Machine/Pack.lean ====
section
/-! DEFINITION. `PACK.<w>` (40_codec.md R85). -/

namespace Sys2Proof.Machine

/-- `PACK(f)`: the pattern of the three field ports; a field too wide for the format is `FieldError`. `a_len` and `a_data`
are ignored (40_codec.md R85). -/
def pack (f : Format) (q : RequestPorts) : Except ErrorCode ResponsePorts :=
  if f.EMAX < q.fExp.toNat ∨ 2 ^ f.M ≤ q.fMant.toNat then .error .fieldError
  else .ok (ResponsePorts.accepted.withResult f (mk f q.fSign q.fExp.toNat q.fMant.toNat))

/-- `PACK.8` (40_codec.md R85). -/
def execPack8 (s : State) : Host.Outcome State Fault Refusal := answer s (pack .quarter s.req)

/-- `PACK.16` (40_codec.md R85). -/
def execPack16 (s : State) : Host.Outcome State Fault Refusal := answer s (pack .half s.req)

/-- `PACK.32` (40_codec.md R85). -/
def execPack32 (s : State) : Host.Outcome State Fault Refusal := answer s (pack .single s.req)

/-- `PACK.64` (40_codec.md R85). -/
def execPack64 (s : State) : Host.Outcome State Fault Refusal := answer s (pack .double s.req)

/-- `PACK.128` (40_codec.md R85). -/
def execPack128 (s : State) : Host.Outcome State Fault Refusal := answer s (pack .quadruple s.req)

/-- `PACK.256` (40_codec.md R85). -/
def execPack256 (s : State) : Host.Outcome State Fault Refusal := answer s (pack .octuple s.req)

end Sys2Proof.Machine
end

