-- ==== Sys2Proof/Machine/Unpack.lean ====
section
/-! DEFINITION. `UNPACK.<w>` (40_codec.md R84). -/

namespace Sys2Proof.Machine

/-- `UNPACK(f)`: the three fields, zero-extended, and the echo of the operand (40_codec.md R84). -/
def unpack (f : Format) (q : RequestPorts) : Except ErrorCode ResponsePorts :=
  onOperand f q fun p =>
    { ResponsePorts.accepted.withResult f p with
      oSign := sign f p
      oExp := (BitVec.ofNat f.E (expf f p)).setWidth 19
      oMant := (BitVec.ofNat f.M (mantf f p)).setWidth 236 }

/-- `UNPACK.8` (40_codec.md R84). -/
def execUnpack8 (s : State) : Host.Outcome State Fault Refusal := answer s (unpack .quarter s.req)

/-- `UNPACK.16` (40_codec.md R84). -/
def execUnpack16 (s : State) : Host.Outcome State Fault Refusal := answer s (unpack .half s.req)

/-- `UNPACK.32` (40_codec.md R84). -/
def execUnpack32 (s : State) : Host.Outcome State Fault Refusal := answer s (unpack .single s.req)

/-- `UNPACK.64` (40_codec.md R84). -/
def execUnpack64 (s : State) : Host.Outcome State Fault Refusal := answer s (unpack .double s.req)

/-- `UNPACK.128` (40_codec.md R84). -/
def execUnpack128 (s : State) : Host.Outcome State Fault Refusal := answer s (unpack .quadruple s.req)

/-- `UNPACK.256` (40_codec.md R84). -/
def execUnpack256 (s : State) : Host.Outcome State Fault Refusal := answer s (unpack .octuple s.req)

end Sys2Proof.Machine
end

