-- ==== Sys2Proof/Machine/Dispatch.lean ====
section
/-! DEFINITION. The dispatch of 30_encoding.md R59: one arm for each legal command word, each one direct call of the
meaning of that instruction. -/

namespace Sys2Proof.Machine

/-- The effect of an instruction on the request that stands on the request ports (30_encoding.md R59). -/
def exec (i : Instr) (s : State) : Host.Outcome State Fault Refusal :=
  match i with
  | .unpack8 => Sys2Proof.Machine.execUnpack8 s
  | .pack8 => Sys2Proof.Machine.execPack8 s
  | .class8 => Sys2Proof.Machine.execClass8 s
  | .cvt8to8 => Sys2Proof.Machine.execCvt8to8 s
  | .neg8 => Sys2Proof.Machine.execNeg8 s
  | .unpack16 => Sys2Proof.Machine.execUnpack16 s
  | .pack16 => Sys2Proof.Machine.execPack16 s
  | .class16 => Sys2Proof.Machine.execClass16 s
  | .cvt16to8 => Sys2Proof.Machine.execCvt16to8 s
  | .neg16 => Sys2Proof.Machine.execNeg16 s
  | .unpack32 => Sys2Proof.Machine.execUnpack32 s
  | .pack32 => Sys2Proof.Machine.execPack32 s
  | .class32 => Sys2Proof.Machine.execClass32 s
  | .cvt32to8 => Sys2Proof.Machine.execCvt32to8 s
  | .neg32 => Sys2Proof.Machine.execNeg32 s
  | .unpack64 => Sys2Proof.Machine.execUnpack64 s
  | .pack64 => Sys2Proof.Machine.execPack64 s
  | .class64 => Sys2Proof.Machine.execClass64 s
  | .cvt64to8 => Sys2Proof.Machine.execCvt64to8 s
  | .neg64 => Sys2Proof.Machine.execNeg64 s
  | .unpack128 => Sys2Proof.Machine.execUnpack128 s
  | .pack128 => Sys2Proof.Machine.execPack128 s
  | .class128 => Sys2Proof.Machine.execClass128 s
  | .cvt128to8 => Sys2Proof.Machine.execCvt128to8 s
  | .neg128 => Sys2Proof.Machine.execNeg128 s
  | .unpack256 => Sys2Proof.Machine.execUnpack256 s
  | .pack256 => Sys2Proof.Machine.execPack256 s
  | .class256 => Sys2Proof.Machine.execClass256 s
  | .cvt256to8 => Sys2Proof.Machine.execCvt256to8 s
  | .neg256 => Sys2Proof.Machine.execNeg256 s
  | .cvt8to16 => Sys2Proof.Machine.execCvt8to16 s
  | .cvt16to16 => Sys2Proof.Machine.execCvt16to16 s
  | .cvt32to16 => Sys2Proof.Machine.execCvt32to16 s
  | .cvt64to16 => Sys2Proof.Machine.execCvt64to16 s
  | .cvt128to16 => Sys2Proof.Machine.execCvt128to16 s
  | .cvt256to16 => Sys2Proof.Machine.execCvt256to16 s
  | .cvt8to32 => Sys2Proof.Machine.execCvt8to32 s
  | .cvt16to32 => Sys2Proof.Machine.execCvt16to32 s
  | .cvt32to32 => Sys2Proof.Machine.execCvt32to32 s
  | .cvt64to32 => Sys2Proof.Machine.execCvt64to32 s
  | .cvt128to32 => Sys2Proof.Machine.execCvt128to32 s
  | .cvt256to32 => Sys2Proof.Machine.execCvt256to32 s
  | .cvt8to64 => Sys2Proof.Machine.execCvt8to64 s
  | .cvt16to64 => Sys2Proof.Machine.execCvt16to64 s
  | .cvt32to64 => Sys2Proof.Machine.execCvt32to64 s
  | .cvt64to64 => Sys2Proof.Machine.execCvt64to64 s
  | .cvt128to64 => Sys2Proof.Machine.execCvt128to64 s
  | .cvt256to64 => Sys2Proof.Machine.execCvt256to64 s
  | .cvt8to128 => Sys2Proof.Machine.execCvt8to128 s
  | .cvt16to128 => Sys2Proof.Machine.execCvt16to128 s
  | .cvt32to128 => Sys2Proof.Machine.execCvt32to128 s
  | .cvt64to128 => Sys2Proof.Machine.execCvt64to128 s
  | .cvt128to128 => Sys2Proof.Machine.execCvt128to128 s
  | .cvt256to128 => Sys2Proof.Machine.execCvt256to128 s
  | .cvt8to256 => Sys2Proof.Machine.execCvt8to256 s
  | .cvt16to256 => Sys2Proof.Machine.execCvt16to256 s
  | .cvt32to256 => Sys2Proof.Machine.execCvt32to256 s
  | .cvt64to256 => Sys2Proof.Machine.execCvt64to256 s
  | .cvt128to256 => Sys2Proof.Machine.execCvt128to256 s
  | .cvt256to256 => Sys2Proof.Machine.execCvt256to256 s

end Sys2Proof.Machine
end

