-- ==== Sys2Proof/Machine/Step.lean ====
section
/-! DEFINITION. One step: one request, one response (70_reset_and_hazards.md R185). The command word arrives with the
request; nothing is fetched (10_state.md R22). -/

namespace Sys2Proof.Machine

/-- Answer what stands on the request ports: idle without a request (10_state.md R31), `IllegalCommand` before anything
else is looked at, and otherwise the instruction the command word is (30_encoding.md R59, 60_exceptions.md R164). -/
def step (s : State) : Host.Outcome State Fault Refusal :=
  if s.req.reqValid then
    match decode s.req.cmd with
    | .ok i => exec i s
    | .error _ => answerIllegal s
  else answerIdle s

/-- The host presents the command word `w` with a request (10_state.md R22, R25): `req_valid` = 1 and `cmd` = `w`, the
other request ports as they stand. A command has 16 bits, so the bits of `w` above `nbits` are dropped, and any above the
port's width with them. -/
def State.withFetchWord (s : State) (nbits w : Nat) : State :=
  s.present { s.req with reqValid := true, cmd := BitVec.ofNat 16 (w % 2 ^ nbits) }

end Sys2Proof.Machine
end

