-- ==== Sys2Proof/Machine/Respond.lean ====
section
/-! DEFINITION. The block seen from outside: an operation's answer for any format, the host's copying of a response
into its next request, the response to one request, and the responses to a sequence of them (30_encoding.md R59, R68,
10_state.md R32, 20_memory.md R46). -/

namespace Sys2Proof.Machine

/-- What operation `o` answers to the request `q`: the dispatch of 30_encoding.md R59 over operations and formats instead
of command words. `exec` is this, arm by arm. -/
def perform : Op → RequestPorts → Except ErrorCode ResponsePorts
  | .unpack f, q => unpack f q
  | .pack f, q => pack f q
  | .classify f, q => classOf f q
  | .cvt sf df, q => cvt sf df q
  | .neg f, q => neg f q

/-- The host copies the result buffer on the response ports into the operand buffer of its next request, and puts the
command word `w` with it (30_encoding.md R68). -/
def State.presentResult (s : State) (w : CommandWord) : State :=
  s.present { s.req with reqValid := true, cmd := w, aLen := s.rsp.rLen, aData := s.rsp.rData }

/-- The host copies the three fields on the response ports into the pack ports of its next request (30_encoding.md R68). -/
def State.presentFields (s : State) (w : CommandWord) : State :=
  s.present { s.req with reqValid := true, cmd := w, fSign := s.rsp.oSign, fExp := s.rsp.oExp, fMant := s.rsp.oMant }

/-- The response ports after one step with `q` on the request ports (10_state.md R32). A step always answers a next state
(70_reset_and_hazards.md R187), so the other two outcomes do not occur. -/
def respond (q : RequestPorts) : ResponsePorts :=
  match step (State.reset.present q) with
  | .next t => t.rsp
  | .fault _ => .idle
  | .refused _ => .idle

/-- The machine runs on while the host presents `qs` one after another: the state after the last one and the responses in
request order, or none if a step should stop (10_state.md R22, 20_memory.md R46). -/
def serve : List RequestPorts → State → Option (State × List ResponsePorts)
  | [], s => some (s, [])
  | q :: qs, s =>
    match step (s.present q) with
    | .next t =>
      match serve qs t with
      | some (u, rs) => some (u, t.rsp :: rs)
      | none => none
    | .fault _ => none
    | .refused _ => none

end Sys2Proof.Machine
end

