-- ==== Sys2Proof/Machine/Script.lean ====
section
/-! DEFINITION. Requests as the assembler writes them, and request scripts (30_encoding.md R66, R68). The copying of
results into later operands is the host's; the block sees independent requests (20_memory.md R46). -/

namespace Sys2Proof.Machine

/-- `<buf>`: bytes written out, most significant first, or the result buffer of an earlier line, `t<k>.r`. -/
inductive BufferArg where
  | bytes (bs : List Byte)
  | resultOf (line : Nat)
  deriving DecidableEq, Repr

/-- `<s>`, `<e>`, `<m>`: a number, or a field an earlier line extracted, `t<k>.s`, `t<k>.e`, `t<k>.m`. -/
inductive NumberArg where
  | number (n : Nat)
  | signOf (line : Nat)
  | expOf (line : Nat)
  | mantOf (line : Nat)
  deriving DecidableEq, Repr

/-- One request line (30_encoding.md R66). -/
inductive AsmRequest where
  | unpack (f : Format) (a : BufferArg)
  | pack (f : Format) (s e m : NumberArg)
  | classify (f : Format) (a : BufferArg)
  | cvt (sf df : Format) (a : BufferArg)
  | neg (f : Format) (a : BufferArg)
  /-- `.cmd 0x<4 digits>`; of any command word, a legal one too (DESIGN CHOICE, notes/assumptions/17.md) -/
  | raw (cmd : CommandWord)
  deriving DecidableEq, Repr

/-- The responses the host has collected, newest first, each under its line's label `k` of `t<k>`. -/
abbrev Collected := List (Nat × ResponsePorts)

/-- A request with its command word, all other ports 0: "Ports a line does not set are 0" (30_encoding.md R66). -/
def RequestPorts.command (w : CommandWord) : RequestPorts := { RequestPorts.zero with reqValid := true, cmd := w }

/-- Put a buffer argument on `a_len` and `a_data`. More than 63 bytes do not fit `a_len`, and a line never written has no
result: none (30_encoding.md R66, R68; notes/assumptions/9.md). -/
def BufferArg.load (env : Collected) (q : RequestPorts) : BufferArg → Option RequestPorts
  | .bytes bs => if bs.length ≤ 63 then some (q.withBuffer bs) else none
  | .resultOf k => (env.lookup k).map fun r => { q with aLen := r.rLen, aData := r.rData }

/-- The number an argument stands for. -/
def NumberArg.eval (env : Collected) : NumberArg → Option Nat
  | .number n => some n
  | .signOf k => (env.lookup k).map fun r => r.oSign.toNat
  | .expOf k => (env.lookup k).map fun r => r.oExp.toNat
  | .mantOf k => (env.lookup k).map fun r => r.oMant.toNat

/-- Put the three pack fields on their ports; "a number that does not fit the port … cannot be written" (30_encoding.md
R66). -/
def RequestPorts.withFields (q : RequestPorts) (s e m : Nat) : Option RequestPorts :=
  if s < 2 ∧ e < 2 ^ 19 ∧ m < 2 ^ 236 then
    some { q with fSign := s == 1, fExp := BitVec.ofNat 19 e, fMant := BitVec.ofNat 236 m }
  else none

/-- The request ports a line sets (30_encoding.md R66). -/
def assemble (env : Collected) : AsmRequest → Option RequestPorts
  | .unpack f a => a.load env (.command (encode (Op.unpack f).instr))
  | .classify f a => a.load env (.command (encode (Op.classify f).instr))
  | .cvt sf df a => a.load env (.command (encode (Op.cvt sf df).instr))
  | .neg f a => a.load env (.command (encode (Op.neg f).instr))
  | .pack f s e m =>
    match s.eval env, e.eval env, m.eval env with
    | some s, some e, some m => (RequestPorts.command (encode (Op.pack f).instr)).withFields s e m
    | _, _, _ => none
  | .raw w => some (.command w)

/-- Run a script of labelled lines: each line is assembled with the responses collected so far, answered by the block, and
its response collected (30_encoding.md R68). None if a line cannot be written. -/
def runScript : List (Nat × AsmRequest) → Collected → Option Collected
  | [], env => some env
  | (k, line) :: rest, env =>
    match assemble env line with
    | some q => runScript rest ((k, respond q) :: env)
    | none => none

end Sys2Proof.Machine
end

