-- ==== Sys2Proof/Machine/Asm.lean ====
section
/-! DEFINITION. The text of a request line and of a script line (30_encoding.md R66, R68): from characters to the lines of
Machine/Script.lean. What the spec leaves open of the text (blanks, the case of hexadecimal digits) is fixed in
notes/assumptions/10.md. -/

namespace Sys2Proof.Machine

/-- Drop the blanks at the front. -/
def trimFront : List Char → List Char
  | [] => []
  | c :: cs => if c = ' ' then trimFront cs else c :: cs

/-- Drop the blanks at both ends. -/
def trim (cs : List Char) : List Char := (trimFront (trimFront cs).reverse).reverse

/-- The pieces between the separators `sep`; there is always at least one. -/
def pieces (sep : Char) : List Char → List (List Char)
  | [] => [[]]
  | c :: cs =>
    if c = sep then [] :: pieces sep cs
    else
      match pieces sep cs with
      | p :: ps => (c :: p) :: ps
      | [] => [[c]]

/-- The value of a decimal digit. -/
def decDigit (c : Char) : Option Nat :=
  if 48 ≤ c.toNat ∧ c.toNat ≤ 57 then some (c.toNat - 48) else none

/-- The value of a hexadecimal digit. -/
def hexDigit (c : Char) : Option Nat :=
  if 97 ≤ c.toLower.toNat ∧ c.toLower.toNat ≤ 102 then some (c.toLower.toNat - 87) else decDigit c

/-- The digits of a number, or none if a character is no digit. -/
def digits (digit : Char → Option Nat) : List Char → Option (List Nat)
  | [] => some []
  | c :: cs =>
    match digit c, digits digit cs with
    | some d, some ds => some (d :: ds)
    | _, _ => none

/-- A number of at least one digit, most significant first. -/
def numeral (base : Nat) (digit : Char → Option Nat) (cs : List Char) : Option Nat :=
  match digits digit cs with
  | some (d :: ds) => some ((d :: ds).foldl (fun n d => base * n + d) 0)
  | some [] => none
  | none => none

/-- An unsigned number, decimal or `0x` hexadecimal (30_encoding.md R66). -/
def parseNumber : List Char → Option Nat
  | '0' :: 'x' :: cs => numeral 16 hexDigit cs
  | cs => numeral 10 decDigit cs

/-- An even number of hexadecimal digits as bytes (30_encoding.md R66). -/
def pairUp : List Nat → Option (List Byte)
  | [] => some []
  | [_] => none
  | h :: l :: ds => (pairUp ds).map fun bs => BitVec.ofNat 8 (16 * h + l) :: bs

/-- `t<k>.<field>`: the label and the field's letter (30_encoding.md R68). -/
def parseReference : List Char → Option (Nat × Char)
  | 't' :: cs =>
    match pieces '.' cs with
    | [k, [c]] => (numeral 10 decDigit k).map fun n => (n, c)
    | _ => none
  | _ => none

/-- `<buf>`, or `t<k>.r` (30_encoding.md R66, R68). -/
def parseBuffer : List Char → Option BufferArg
  | '0' :: 'x' :: cs =>
    match digits hexDigit cs with
    | some ds => (pairUp ds).map .bytes
    | none => none
  | cs =>
    match parseReference cs with
    | some (k, 'r') => some (.resultOf k)
    | _ => none

/-- `<e>` or `<m>`: a number, or `t<k>.s`, `t<k>.e`, `t<k>.m` (30_encoding.md R66, R68). The spec does not tie a reference to
the field it was extracted from, so any of the three may stand here (DESIGN CHOICE, notes/assumptions/10.md). -/
def parseField (cs : List Char) : Option NumberArg :=
  match parseReference cs with
  | some (k, 's') => some (.signOf k)
  | some (k, 'e') => some (.expOf k)
  | some (k, 'm') => some (.mantOf k)
  | some _ => none
  | none => (parseNumber cs).map .number

/-- `<s>`: `0` or `1`, or a field of an earlier line (30_encoding.md R66, R68). -/
def parseSign : List Char → Option NumberArg
  | ['0'] => some (.number 0)
  | ['1'] => some (.number 1)
  | cs => if (parseReference cs).isSome then parseField cs else none

/-- `<w>`, `<ws>`, `<wd>` (30_encoding.md R66). -/
def parseFormat : List Char → Option Format
  | ['8'] => some .quarter
  | ['1', '6'] => some .half
  | ['3', '2'] => some .single
  | ['6', '4'] => some .double
  | ['1', '2', '8'] => some .quadruple
  | ['2', '5', '6'] => some .octuple
  | _ => none

/-- The word of `.cmd 0x<4 digits>` (30_encoding.md R66). The spec gives `.cmd` as the writing of an illegal command word
and does not say whether it may write a legal one; here any word of four digits is accepted, and a legal one presents its
instruction with every other port 0 (DESIGN CHOICE, notes/assumptions/17.md). -/
def parseWord : List Char → Option CommandWord
  | '0' :: 'x' :: cs => if cs.length = 4 then (numeral 16 hexDigit cs).map (BitVec.ofNat 16) else none
  | _ => none

/-- A mnemonic, in small letters and cut at its dots, with its operands (30_encoding.md R66). -/
def parseOperation (mnemonic operands : List (List Char)) : Option AsmRequest :=
  match mnemonic, operands with
  | [['u', 'n', 'p', 'a', 'c', 'k'], w], [a] =>
    match parseFormat w, parseBuffer a with
    | some f, some a => some (.unpack f a)
    | _, _ => none
  | [['p', 'a', 'c', 'k'], w], [s, e, m] =>
    match parseFormat w, parseSign s, parseField e, parseField m with
    | some f, some s, some e, some m => some (.pack f s e m)
    | _, _, _, _ => none
  | [['c', 'l', 'a', 's', 's'], w], [a] =>
    match parseFormat w, parseBuffer a with
    | some f, some a => some (.classify f a)
    | _, _ => none
  | [['c', 'v', 't'], ws, wd], [a] =>
    match parseFormat ws, parseFormat wd, parseBuffer a with
    | some sf, some df, some a => some (.cvt sf df a)
    | _, _, _ => none
  | [['n', 'e', 'g'], w], [a] =>
    match parseFormat w, parseBuffer a with
    | some f, some a => some (.neg f a)
    | _, _ => none
  | [[], ['c', 'm', 'd']], [w] => (parseWord w).map .raw
  | _, _ => none

/-- A line up to its first blank, and what stands after it. -/
def firstWord : List Char → List Char × List Char
  | [] => ([], [])
  | c :: cs => if c = ' ' then ([], cs) else (c :: (firstWord cs).1, (firstWord cs).2)

/-- One request line (30_encoding.md R66). "The mnemonics are case insensitive." The directive `.cmd` is no mnemonic, and
the spec does not say in which case it is written; it is read in either case too, so `.CMD` is accepted (DESIGN CHOICE,
notes/assumptions/17.md). -/
def parseRequest (line : List Char) : Option AsmRequest :=
  parseOperation (pieces '.' ((firstWord (trim line)).1.map Char.toLower)) ((pieces ',' (firstWord (trim line)).2).map trim)

/-- One script line, `t<k>: <request>` (30_encoding.md R68). -/
def parseLine (line : List Char) : Option (Nat × AsmRequest) :=
  match pieces ':' line with
  | [label, request] =>
    match trim label with
    | 't' :: k =>
      match numeral 10 decDigit k, parseRequest request with
      | some k, some r => some (k, r)
      | _, _ => none
    | _ => none
  | _ => none

end Sys2Proof.Machine
end

