-- ==== Sys2Proof/Machine/Pipeline.lean ====
section
/-! DEFINITION. An implementation with `LATENCY` = L > 0 (70_reset_and_hazards.md R180, R185, 10_state.md R35). The machine
of this package is the reference form, L = 0, and needs none of this; the pipelined form is modelled beside it because the
spec says what it must do. It computes the same function, later. -/

namespace Sys2Proof.Machine

/-- The pipeline registers: the responses in flight, the youngest first, one slot for each cycle of latency. -/
structure Pipe where
  stages : List ResponsePorts
  deriving DecidableEq, Repr

/-- The pipeline of an implementation with `LATENCY` = `latency` while its reset is asserted: nothing in flight. -/
def Pipe.empty (latency : Nat) : Pipe := { stages := List.replicate latency .idle }

/-- `LATENCY` of an implementation (70_reset_and_hazards.md R185). -/
def Pipe.latency (p : Pipe) : Nat := p.stages.length

/-- One clock cycle: what the response ports show in this cycle and the pipeline after it. While `resetAsserted` the
response is idle and the requests in flight and the one presented are discarded (70_reset_and_hazards.md R180). Otherwise a
request is accepted in every cycle, and the response to the request of `latency` cycles ago is shown, the idle response
where that cycle presented none (70_reset_and_hazards.md R185). -/
def Pipe.clock (resetAsserted : Bool) (q : RequestPorts) (p : Pipe) : ResponsePorts × Pipe :=
  if resetAsserted then (.idle, .empty p.latency)
  else
    let inFlight := respond q :: p.stages
    (inFlight.getLastD .idle, { stages := inFlight.dropLast })

/-- The response ports over a run of cycles; each cycle has the reset input and the request ports. -/
def Pipe.run : List (Bool × RequestPorts) → Pipe → List ResponsePorts
  | [], _ => []
  | (reset, q) :: rest, p => (p.clock reset q).1 :: Pipe.run rest (p.clock reset q).2

end Sys2Proof.Machine
end

