-- ==== Sys2Proof/Machine/Value.lean ====
section
/-! DEFINITION. The exact rational number a finite pattern stands for (41_classify.md R103, R104). It is mathematics for
stating properties (00_scope.md R10); the block has no rational datapath, no port carries it and no meaning calls it. -/

namespace Sys2Proof

/-- `(−1)^s` for a sign bit. -/
def signFactor (s : Bool) : ℚ := if s then -1 else 1

/-- `value(f, p)`; none for Infinite and NaN, where it is undefined (41_classify.md R103). -/
def value (f : Format) (p : Pattern f) : Option ℚ :=
  match classify f p with
  | .zero => some 0
  | .subnormal => some (signFactor (sign f p) * ((mantf f p : ℚ) / 2 ^ f.M) * (2 : ℚ) ^ (1 - (f.B : ℤ)))
  | .normal =>
    some (signFactor (sign f p) * (1 + (mantf f p : ℚ) / 2 ^ f.M) * (2 : ℚ) ^ ((expf f p : ℤ) - (f.B : ℤ)))
  | .infinite => none
  | .qnan => none
  | .snan => none

/-- `isInteger()` as the source defines it, through the reduced denominator of the value (41_classify.md R104). -/
def valueIsInteger (f : Format) (p : Pattern f) : Bool :=
  match value f p with
  | some v => v.den == 1
  | none => false

end Sys2Proof
end

