-- ==== Sys2Proof/Safety.lean ====
section
/-! DEFINITION. The terms claims are stated in: what a safe run shows on the response ports (10_state.md R28, R30, R31,
41_classify.md R101, R102, R104, 60_exceptions.md R165), and in `Raw` the spec's formulas written once more on plain
numbers, with no bit-vector operation and no definition of the machine, so that a claim compares two readings. -/

namespace Sys2Proof.Machine

/-- No request answered: the idle response, whole (10_state.md R31). -/
abbrev ResponsePorts.IdleIsZero (r : ResponsePorts) : Prop := r.rspValid = false → r = .idle

/-- An error response carries its code and nothing else (60_exceptions.md R165). -/
abbrev ResponsePorts.ErrorIsBare (r : ResponsePorts) : Prop :=
  r.err ≠ 0 → r = { ResponsePorts.idle with rspValid := true, err := r.err }

/-- A request that succeeded has a whole result buffer of one format, zero above it (10_state.md R28, 20_memory.md R44). -/
abbrev ResponsePorts.ResultFits (r : ResponsePorts) : Prop :=
  r.rspValid = true → r.err = 0 → r.rLen.toNat ∈ [1, 2, 4, 8, 16, 32] ∧ r.rData.toNat < 2 ^ (8 * r.rLen.toNat)

/-- Class codes 6 and 7 are never driven; only a Zero, Subnormal or Normal is finite; only a finite value is an integer
(41_classify.md R101, R102, R104). -/
abbrev ResponsePorts.ClassAgrees (r : ResponsePorts) : Prop :=
  r.oCls.toNat ≤ 5 ∧ (r.oFin = true → r.oCls.toNat ≤ 2) ∧ (r.oInt = true → r.oFin = true)

/-- The promises of every response together. -/
abbrev ResponsePorts.Legal (r : ResponsePorts) : Prop :=
  r.IdleIsZero ∧ r.ErrorIsBare ∧ r.ResultFits ∧ r.ClassAgrees

/-- The invariant of the machine: the response ports show a legal response. The request ports are the host's and may hold
anything (10_state.md R24). -/
abbrev State.Inv (s : State) : Prop := s.rsp.Legal

/-- A response with no error that drives a result buffer of format `f` holding the number `n`, and nothing else. -/
def resultResponse (f : Format) (n : Nat) : ResponsePorts :=
  { ResponsePorts.idle with rspValid := true, rLen := BitVec.ofNat 6 f.NB, rData := BitVec.ofNat 256 n }

/-- An error response with code `c` (60_exceptions.md R165). -/
def errorResponse (c : BitVec 2) : ResponsePorts := { ResponsePorts.idle with rspValid := true, err := c }

/-- The pattern of the operand buffer of format `f` on the request ports (10_state.md R27). -/
def State.pattern (s : State) (f : Format) : Pattern f := s.req.aData.setWidth f.W

/-- The pattern of the result buffer of format `f` on the response ports (10_state.md R28). -/
def State.result (s : State) (f : Format) : Pattern f := s.rsp.rData.setWidth f.W

end Sys2Proof.Machine

namespace Sys2Proof.Raw

/-- The operand of format `f` on a bus, as a number: the bits above it are dropped (10_state.md R27). -/
def operand (f : Format) (bus : DataBus) : Nat := bus.toNat % 2 ^ f.W

/-- The sign bit of the pattern with number `n` (20_memory.md R42). -/
def sign (f : Format) (n : Nat) : Bool := decide (n / 2 ^ (f.W - 1) % 2 = 1)

/-- The exponent field of the pattern with number `n` (20_memory.md R42). -/
def expf (f : Format) (n : Nat) : Nat := n / 2 ^ f.M % 2 ^ f.E

/-- The mantissa field of the pattern with number `n` (20_memory.md R42). -/
def mantf (f : Format) (n : Nat) : Nat := n % 2 ^ f.M

/-- The number of the pattern with these fields (40_codec.md R86). -/
def packed (f : Format) (s : Bool) (e m : Nat) : Nat := s.toNat * 2 ^ (f.W - 1) + e * 2 ^ f.M + m

/-- The class code of the pattern with number `n` (41_classify.md R100, R101). -/
def classCode (f : Format) (n : Nat) : Nat :=
  if expf f n = 0 then (if mantf f n = 0 then 0 else 1)
  else if expf f n < 2 ^ f.E - 1 then 2
  else if mantf f n = 0 then 3
  else if 2 ^ (f.M - 1) ≤ mantf f n then 4
  else 5

/-- The integer test of 41_classify.md R105 with e − B compared on natural numbers. -/
def isInteger (f : Format) (n : Nat) : Bool :=
  decide ((expf f n = 0 ∧ mantf f n = 0) ∨
    (0 < expf f n ∧ expf f n < 2 ^ f.E - 1 ∧
      (f.B + f.M ≤ expf f n ∨ (f.B ≤ expf f n ∧ mantf f n % 2 ^ (f.B + f.M - expf f n) = 0))))

/-- The number of the pattern widening gives (42_convert.md R122 to R126). -/
def widened (sf df : Format) (n : Nat) : Nat :=
  if expf sf n = 0 then
    if mantf sf n = 0 then packed df (sign sf n) 0 0
    else
      packed df (sign sf n) (Nat.log2 (mantf sf n) + 1 + df.B - sf.B - sf.M)
        ((mantf sf n - 2 ^ Nat.log2 (mantf sf n)) * 2 ^ (df.M - Nat.log2 (mantf sf n)))
  else if expf sf n < 2 ^ sf.E - 1 then
    packed df (sign sf n) (expf sf n + df.B - sf.B) (mantf sf n * 2 ^ (df.M - sf.M))
  else packed df (sign sf n) (2 ^ df.E - 1) (mantf sf n * 2 ^ (df.M - sf.M))

/-- The number of the pattern narrowing gives (42_convert.md R127 to R131). The rebiased exponent e − B + B′ is compared
with the bias moved to the other side, so that no number is negative. -/
def narrowed (sf df : Format) (n : Nat) : Nat :=
  if expf sf n = 2 ^ sf.E - 1 then
    packed df (sign sf n) (2 ^ df.E - 1) (if mantf sf n = 0 then 0 else 2 ^ (df.M - 1))
  else if expf sf n = 0 then packed df (sign sf n) 0 0
  else if 2 ^ df.E - 1 + sf.B ≤ expf sf n + df.B then packed df (sign sf n) (2 ^ df.E - 1) 0
  else if sf.B + 1 ≤ expf sf n + df.B then
    packed df (sign sf n) (expf sf n + df.B - sf.B) (mantf sf n >>> (sf.M - df.M))
  else packed df (sign sf n) 0 ((2 ^ sf.M + mantf sf n) >>> (sf.M - df.M + (1 + sf.B - (expf sf n + df.B))))

end Sys2Proof.Raw
end

