-- ==== Sys2Proof/Certificates/Slice0/Obligations.lean ====
section
/-! DEFINITION. The statements for the provers. Each follows rules of spec/; a statement over `Op.unpack f` and its like
with f : Format speaks of the six instructions of that operation, one over `Op.cvt sf df` of the pairs its hypothesis on the
widths leaves. -/

open Sys2Proof Sys2Proof.Machine

/-! ### Decoding and stepping -/

/-- A few command words, each written out from 30_encoding.md R55 to R57: op + 16·sf + 128·df. -/
def Obligations.DecodeReadsWrittenOutWords : Prop :=
  decode 0b000000_000_000_0000#16 = .ok .unpack8 ∧
  decode 0b000000_000_001_0001#16 = .ok .pack16 ∧
  decode 0b000000_000_101_0010#16 = .ok .class256 ∧
  decode 0b000000_001_010_0011#16 = .ok .cvt32to16 ∧
  decode 0b000000_101_100_0011#16 = .ok .cvt128to256 ∧
  decode 0b000000_011_011_0011#16 = .ok .cvt64to64 ∧
  decode 0b000000_000_011_0100#16 = .ok .neg64 ∧
  decode 0b000000_000_000_0101#16 = .error .reservedOp ∧
  decode 0b000000_001_000_0100#16 = .error .unusedDestination

/-- Decoder and encoder agree in both directions, on every word: a word decodes to `i` exactly when it is the word the
table of 30_encoding.md R61 gives `i`. No two instructions share a word and no word outside the table decodes. -/
def Obligations.DecodeIsInverseOfEncode : Prop :=
  ∀ (w : CommandWord) (i : Instr), decode w = .ok i ↔ encode i = w

/-- The word of an instruction is op + 16·sf + 128·df (30_encoding.md R55), with the operation codes of R56 and the format
codes of R57. -/
def Obligations.EncodingIsOpPlusFormatFields : Prop :=
  ∀ f g : Format,
    (encode (Op.unpack f).instr).toNat = 0 + 16 * f.code ∧
    (encode (Op.pack f).instr).toNat = 1 + 16 * f.code ∧
    (encode (Op.classify f).instr).toNat = 2 + 16 * f.code ∧
    (encode (Op.cvt f g).instr).toNat = 3 + 16 * f.code + 128 * g.code ∧
    (encode (Op.neg f).instr).toNat = 4 + 16 * f.code

/-- 30_encoding.md R62: the words that are illegal, how many there are, and that each is answered with `IllegalCommand`. -/
def Obligations.ReservedWordsAreIllegalCommands : Prop :=
  (∀ w : CommandWord,
    (∃ e, decode w = .error e) ↔
      (w.toNat / 1024 ≠ 0 ∨ 5 ≤ w.toNat % 16 ∨ 6 ≤ w.toNat / 16 % 8 ∨
        (w.toNat % 16 = 3 ∧ 6 ≤ w.toNat / 128 % 8) ∨ (w.toNat % 16 ≠ 3 ∧ w.toNat / 128 % 8 ≠ 0))) ∧
  (∀ (s : State) (e : IllegalReason), s.req.reqValid = true → decode s.req.cmd = .error e →
    step s = .next ⟨s.req, errorResponse 1⟩) ∧
  (Finset.univ.filter fun w : CommandWord => (decode w).toOption = none).card = 65476

/-- A step runs the decoded instruction: with a request whose command word decodes to `i`, `step` is `exec i`, and so it is
on the word that `withFetchWord` places. -/
def Obligations.StepRunsDecodedInstruction : Prop :=
  (∀ (s : State) (i : Instr), s.req.reqValid = true → decode s.req.cmd = .ok i → step s = exec i s) ∧
  (∀ (s : State) (i : Instr),
    step (s.withFetchWord 16 (encode i).toNat) = exec i (s.withFetchWord 16 (encode i).toNat))

/-- Without a request every response port is 0 (10_state.md R31). That this is a step of the model is its own choice
(notes/assumptions/4.md). -/
def Obligations.NoRequestGivesIdleResponse : Prop :=
  ∀ s : State, s.req.reqValid = false →
    step s = .next ⟨s.req,
      { rspValid := false, err := 0, rLen := 0, rData := 0, oSign := false, oExp := 0, oMant := 0, oCls := 0,
        oFin := false, oInt := false }⟩

/-- Every request is answered, and by exactly one response (70_reset_and_hazards.md R187, 10_state.md R32): a step never
stops, shows a response exactly when there is a request, and leaves the request ports to the host. That a step answers a next
state without a request too is the model's own choice (notes/assumptions/4.md): R187 speaks of requests only. -/
def Obligations.EveryRequestIsAnswered : Prop :=
  ∀ s : State, ∃ t, step s = .next t ∧ t.req = s.req ∧ t.rsp.rspValid = s.req.reqValid

/-- Responses come in request order and each is a function of its own request, from whatever state and whatever was asked
before (20_memory.md R46, 10_state.md R20). The list may hold entries without a request, which the idle response answers in a
step: that is the model's own choice (notes/assumptions/4.md). -/
def Obligations.ResponsesDependOnOwnRequestOnly : Prop :=
  ∀ (qs : List RequestPorts) (s : State), ∃ t, serve qs s = some (t, qs.map respond)

/-- 10_state.md R29: `PACK` ignores `a_len` and `a_data`; every other command ignores `f_sign`, `f_exp` and `f_mant`. That
a step answers without a request too is the model's own choice (notes/assumptions/4.md). -/
def Obligations.UnreadRequestPortsAreIgnored : Prop :=
  ∀ s s' : State, s.req.reqValid = s'.req.reqValid → s.req.cmd = s'.req.cmd →
    ((∃ f, decode s.req.cmd = .ok (Op.pack f).instr) → s.req.fSign = s'.req.fSign → s.req.fExp = s'.req.fExp →
      s.req.fMant = s'.req.fMant → ∃ t t', step s = .next t ∧ step s' = .next t' ∧ t.rsp = t'.rsp) ∧
    ((¬ ∃ f, decode s.req.cmd = .ok (Op.pack f).instr) → s.req.aLen = s'.req.aLen → s.req.aData = s'.req.aData →
      ∃ t t', step s = .next t ∧ step s' = .next t' ∧ t.rsp = t'.rsp)

/-- The bits of `a_data` above the `a_len` bytes of the buffer are not part of it (10_state.md R27). That a step
answers without a request too is the model's own choice (notes/assumptions/4.md). -/
def Obligations.BitsAboveBufferAreIgnored : Prop :=
  ∀ (s : State) (d : DataBus), d.toNat % 2 ^ (8 * s.req.aLen.toNat) = s.req.aData.toNat % 2 ^ (8 * s.req.aLen.toNat) →
    ∃ t t', step s = .next t ∧ step (s.present { s.req with aData := d }) = .next t' ∧ t.rsp = t'.rsp

/-! ### Errors -/

/-- 60_exceptions.md R161: a request ends in `IllegalCommand` exactly when its command word is none of the 60 legal words,
whatever the other ports hold. -/
def Obligations.IllegalCommandDependsOnWordOnly : Prop :=
  ∀ s : State, s.req.reqValid = true →
    ∃ t, step s = .next t ∧ (t.rsp.err = 1 ↔ ∀ i : Instr, encode i ≠ s.req.cmd)

/-- 60_exceptions.md R162: `LengthError` on the operations that take an operand buffer exactly when `a_len` ≠ NB(sf), and
never on `PACK`. -/
def Obligations.LengthErrorExactlyOnWrongLength : Prop :=
  (∀ (f g : Format) (s : State), ∀ o ∈ [Op.unpack f, Op.classify f, Op.cvt f g, Op.neg f],
    (s.req.aLen.toNat ≠ f.NB → exec o.instr s = .next ⟨s.req, errorResponse 2⟩) ∧
    (s.req.aLen.toNat = f.NB → ∃ t, exec o.instr s = .next t ∧ t.rsp.err = 0)) ∧
  (∀ (f : Format) (s : State), ∃ t, exec (Op.pack f).instr s = .next t ∧ t.rsp.err ≠ 2)

/-- 60_exceptions.md R163: `FieldError` on `PACK` exactly when a field exceeds its width, and on no other operation; both
fields too wide is one error. -/
def Obligations.FieldErrorExactlyOnWideField : Prop :=
  (∀ (f : Format) (s : State),
    (f.EMAX < s.req.fExp.toNat ∨ 2 ^ f.M ≤ s.req.fMant.toNat →
      exec (Op.pack f).instr s = .next ⟨s.req, errorResponse 3⟩) ∧
    (¬ (f.EMAX < s.req.fExp.toNat ∨ 2 ^ f.M ≤ s.req.fMant.toNat) →
      ∃ t, exec (Op.pack f).instr s = .next t ∧ t.rsp.err = 0)) ∧
  (∀ (f g : Format) (s : State), ∀ o ∈ [Op.unpack f, Op.classify f, Op.cvt f g, Op.neg f],
    ∃ t, exec o.instr s = .next t ∧ t.rsp.err ≠ 3)

/-- 60_exceptions.md R165: an error response holds its code and otherwise zeros, and its empty result buffer is refused as
an operand by every operation that takes one. -/
def Obligations.ErrorResponseIsBareAndNotReusable : Prop :=
  (∀ s t : State, step s = .next t → t.rsp.err ≠ 0 →
    t.rsp.rspValid = true ∧ t.rsp.rLen = 0 ∧ t.rsp.rData = 0 ∧ t.rsp.oSign = false ∧ t.rsp.oExp = 0 ∧
      t.rsp.oMant = 0 ∧ t.rsp.oCls = 0 ∧ t.rsp.oFin = false ∧ t.rsp.oInt = false) ∧
  (∀ (s t : State) (f g : Format), step s = .next t → t.rsp.err ≠ 0 →
    ∀ o ∈ [Op.unpack f, Op.classify f, Op.cvt f g, Op.neg f],
      ∃ u, step (t.presentResult (encode o.instr)) = .next u ∧ u.rsp.err = 2)

/-- What an instruction leaves alone (10_state.md R30): the request ports; `o_exp` and `o_mant` but for `UNPACK`; `o_cls`,
`o_fin` and `o_int` but for `CLASS`; `o_sign` but for these two; and on an error everything but `rsp_valid` and `err`. -/
def Obligations.UndrivenPortsAreZero : Prop :=
  ∀ (o : Op) (s t : State), exec o.instr s = .next t →
    t.req = s.req ∧ t.rsp.rspValid = true ∧
    ((¬ ∃ f, o = .unpack f) → t.rsp.oExp = 0 ∧ t.rsp.oMant = 0) ∧
    ((¬ ∃ f, o = .classify f) → t.rsp.oCls = 0 ∧ t.rsp.oFin = false ∧ t.rsp.oInt = false) ∧
    ((¬ ∃ f, o = .unpack f ∨ o = .classify f) → t.rsp.oSign = false) ∧
    (t.rsp.err ≠ 0 → t.rsp = errorResponse t.rsp.err)

/-! ### Buffers, UNPACK and PACK -/

/-- 20_memory.md R41: the operand is its bytes read big-endian, `b[i]` is the pattern's bits W−1−8i to W−8−8i, the sign is
the most significant bit of the first byte; and the result buffer holds the bytes in the same order. -/
def Obligations.BuffersAreBigEndian : Prop :=
  ∀ (f : Format) (bs : List Byte) (s : State), bs.length = f.NB →
    ∃ t, exec (Op.unpack f).instr (s.present (s.req.withBuffer bs)) = .next t ∧
      t.rsp.rLen.toNat = bs.length ∧ t.rsp.rData.toNat = bigEndian bs ∧
      (∀ i b, bs[i]? = some b →
        t.rsp.resultByte i = b ∧ (t.result f).extractLsb' (f.W - 8 - 8 * i) 8 = b) ∧
      (∀ b, bs[0]? = some b → t.rsp.oSign = b.getLsbD 7)

/-- 40_codec.md R81, R82 (and R80, R84) through `UNPACK`, which completes on every pattern: the fields come out as stored,
no bias subtracted, no implicit 1 added, no pattern treated specially. -/
def Obligations.UnpackReturnsStoredFields : Prop :=
  ∀ (f : Format) (s : State), s.req.aLen.toNat = f.NB →
    exec (Op.unpack f).instr s = .next ⟨s.req,
      { resultResponse f (Raw.operand f s.req.aData) with
        oSign := Raw.sign f (Raw.operand f s.req.aData)
        oExp := BitVec.ofNat 19 (Raw.expf f (Raw.operand f s.req.aData))
        oMant := BitVec.ofNat 236 (Raw.mantf f (Raw.operand f s.req.aData)) }⟩

/-- 40_codec.md R85, R86: `PACK` completes on every field in range, with the pattern s·2^(W−1) + e·2^M + m. -/
def Obligations.PackAssemblesFields : Prop :=
  ∀ (f : Format) (s : State), s.req.fExp.toNat < 2 ^ f.E → s.req.fMant.toNat < 2 ^ f.M →
    exec (Op.pack f).instr s = .next ⟨s.req,
      resultResponse f (Raw.packed f s.req.fSign s.req.fExp.toNat s.req.fMant.toNat)⟩

/-- 40_codec.md R87: pack after unpack is the identity on every pattern, and as a script it never raises `FieldError`. -/
def Obligations.PackAfterUnpackIsIdentity : Prop :=
  (∀ (f : Format) (p : Pattern f), mk f (sign f p) (expf f p) (mantf f p) = p) ∧
  (∀ (f : Format) (bs : List Byte), bs.length = f.NB → ∃ r₁ r₂,
    runScript [(1, .unpack f (.bytes bs)), (2, .pack f (.signOf 1) (.expOf 1) (.mantOf 1))] [] = some [(2, r₂), (1, r₁)] ∧
      r₂.err = 0 ∧ r₂.rLen.toNat = f.NB ∧ r₂.rData.toNat = bigEndian bs)

/-- 40_codec.md R88: unpack after pack gives the fields back, so `mk` is a bijection between fields in range and patterns. -/
def Obligations.UnpackAfterPackIsIdentity : Prop :=
  (∀ (f : Format) (s : Bool) (e m : Nat), e ≤ f.EMAX → m < 2 ^ f.M →
    sign f (mk f s e m) = s ∧ expf f (mk f s e m) = e ∧ mantf f (mk f s e m) = m) ∧
  (∀ (f : Format) (p : Pattern f), ∃! x : Bool × Nat × Nat, (x.2.1 ≤ f.EMAX ∧ x.2.2 < 2 ^ f.M) ∧ mk f x.1 x.2.1 x.2.2 = p)

/-- The same through the machine: the host packs, presents the result to `UNPACK`, and reads its fields back. -/
def Obligations.UnpackOfPackResultReturnsFields : Prop :=
  ∀ (f : Format) (s : State), s.req.fExp.toNat ≤ f.EMAX → s.req.fMant.toNat < 2 ^ f.M →
    ∃ t u, exec (Op.pack f).instr s = .next t ∧ step (t.presentResult (encode (Op.unpack f).instr)) = .next u ∧
      u.rsp.err = 0 ∧ u.rsp.oSign = s.req.fSign ∧ u.rsp.oExp = s.req.fExp ∧ u.rsp.oMant = s.req.fMant

/-! ### CLASS -/

/-- 41_classify.md R106: `CLASS` completes on every pattern, with the class code of the table of R100, finiteness, the
integer test of R105, the sign and the echo of the operand. -/
def Obligations.ClassReportsClassAndPredicates : Prop :=
  ∀ (f : Format) (s : State), s.req.aLen.toNat = f.NB →
    exec (Op.classify f).instr s = .next ⟨s.req,
      { resultResponse f (Raw.operand f s.req.aData) with
        oSign := Raw.sign f (Raw.operand f s.req.aData)
        oCls := BitVec.ofNat 3 (Raw.classCode f (Raw.operand f s.req.aData))
        oFin := decide (Raw.expf f (Raw.operand f s.req.aData) < 2 ^ f.E - 1)
        oInt := Raw.isInteger f (Raw.operand f s.req.aData) }⟩

/-- 41_classify.md R102: `o_fin` says Zero, Subnormal or Normal, which is the same as e < EMAX. -/
def Obligations.FiniteIsZeroSubnormalOrNormal : Prop :=
  ∀ (f : Format) (s : State), s.req.aLen.toNat = f.NB → ∃ t, exec (Op.classify f).instr s = .next t ∧
    (t.rsp.oFin = true ↔
      classify f (s.pattern f) = .zero ∨ classify f (s.pattern f) = .subnormal ∨ classify f (s.pattern f) = .normal) ∧
    (t.rsp.oFin = true ↔ expf f (s.pattern f) < f.EMAX)

/-- 41_classify.md R104: `o_int`, which the hardware computes bit by bit, is 1 exactly when the exact rational value of the
pattern is an integer; both zeros count, no Infinite or NaN does. -/
def Obligations.IntegerBitAgreesWithExactValue : Prop :=
  ∀ (f : Format) (s : State), s.req.aLen.toNat = f.NB → ∃ t, exec (Op.classify f).instr s = .next t ∧
    (t.rsp.oInt = true ↔ ∃ z : ℤ, value f (s.pattern f) = some (z : ℚ)) ∧
    (classify f (s.pattern f) = .zero → t.rsp.oInt = true)

/-- 41_classify.md R107: how many patterns of each format fall in each class. -/
def Obligations.ClassCountsPerFormat : Prop :=
  ∀ f : Format,
    (Finset.univ.filter fun p : Pattern f => classify f p = .zero).card = 2 ∧
    (Finset.univ.filter fun p : Pattern f => classify f p = .subnormal).card = 2 * (2 ^ f.M - 1) ∧
    (Finset.univ.filter fun p : Pattern f => classify f p = .normal).card = 2 * (f.EMAX - 1) * 2 ^ f.M ∧
    (Finset.univ.filter fun p : Pattern f => classify f p = .infinite).card = 2 ∧
    (Finset.univ.filter fun p : Pattern f => classify f p = .qnan).card = 2 * 2 ^ (f.M - 1) ∧
    (Finset.univ.filter fun p : Pattern f => classify f p = .snan).card = 2 * (2 ^ (f.M - 1) - 1)

/-- The value formulas at the landmarks of 41_classify.md R109: smallest subnormal, smallest normal, one, largest finite. -/
def Obligations.LandmarkValues : Prop :=
  ∀ f : Format,
    value f (mk f false 0 1) = some ((2 : ℚ) ^ (1 - (f.B : ℤ) - (f.M : ℤ))) ∧
    value f (mk f false 1 0) = some ((2 : ℚ) ^ (1 - (f.B : ℤ))) ∧
    value f (mk f false f.B 0) = some 1 ∧
    value f (mk f false (f.EMAX - 1) (2 ^ f.M - 1)) = some ((2 - (2 : ℚ) ^ (-(f.M : ℤ))) * 2 ^ f.B)

/-! ### CVT -/

/-- 42_convert.md R121: at equal widths the result is the operand, bit for bit. The six `CVT.<w>.<w>` complete. -/
def Obligations.SameWidthConversionIsIdentity : Prop :=
  ∀ (f : Format) (s : State), s.req.aLen.toNat = f.NB →
    exec (Op.cvt f f).instr s = .next ⟨s.req, resultResponse f (Raw.operand f s.req.aData)⟩

/-- 42_convert.md R122: the fifteen widening conversions complete on every pattern, with the result its five cases give. -/
def Obligations.WideningByClass : Prop :=
  ∀ (sf df : Format) (s : State), sf.W < df.W → s.req.aLen.toNat = sf.NB →
    exec (Op.cvt sf df).instr s = .next ⟨s.req,
      resultResponse df (Raw.widened sf df (Raw.operand sf s.req.aData))⟩

/-- 42_convert.md R127: the fifteen narrowing conversions complete on every pattern, with the result its cases give. -/
def Obligations.NarrowingByClass : Prop :=
  ∀ (sf df : Format) (s : State), df.W < sf.W → s.req.aLen.toNat = sf.NB →
    exec (Op.cvt sf df).instr s = .next ⟨s.req,
      resultResponse df (Raw.narrowed sf df (Raw.operand sf s.req.aData))⟩

/-- 42_convert.md R134: widening keeps the value, keeps the class but for Subnormal, which becomes Normal, and is
injective. -/
def Obligations.WideningIsExact : Prop :=
  ∀ (sf df : Format) (s s' : State), sf.W < df.W → s.req.aLen.toNat = sf.NB → s'.req.aLen.toNat = sf.NB →
    ∃ t t', exec (Op.cvt sf df).instr s = .next t ∧ exec (Op.cvt sf df).instr s' = .next t' ∧
      value df (t.result df) = value sf (s.pattern sf) ∧
      classify df (t.result df) =
        (if classify sf (s.pattern sf) = .subnormal then .normal else classify sf (s.pattern sf)) ∧
      (t.rsp.rData = t'.rsp.rData → s.pattern sf = s'.pattern sf)

/-- 42_convert.md R135: widening and narrowing back gives every pattern that is no NaN back, and a NaN as the canonical
quiet NaN of its sign. -/
def Obligations.RoundTripThroughWiderFormat : Prop :=
  ∀ (sf df : Format) (s : State), sf.W < df.W → s.req.aLen.toNat = sf.NB →
    ∃ t u, exec (Op.cvt sf df).instr s = .next t ∧
      step (t.presentResult (encode (Op.cvt df sf).instr)) = .next u ∧ u.rsp.err = 0 ∧ u.rsp.rLen.toNat = sf.NB ∧
      u.rsp.rData.toNat =
        (if (classify sf (s.pattern sf)).isNaN then
          Raw.packed sf (sign sf (s.pattern sf)) sf.EMAX (2 ^ (sf.M - 1))
        else (s.pattern sf).toNat)

/-- 42_convert.md R136: what narrowing computes, as a value: the Infinite of the operand's sign from 2^(B′+1) on, and below
it the largest magnitude of the destination that does not exceed the operand's, with the operand's sign; the Zero of that
sign below the smallest subnormal. -/
def Obligations.NarrowingRoundsTowardZero : Prop :=
  ∀ (sf df : Format) (s : State) (v : ℚ), df.W < sf.W → s.req.aLen.toNat = sf.NB → value sf (s.pattern sf) = some v →
    ∃ t, exec (Op.cvt sf df).instr s = .next t ∧ sign df (t.result df) = sign sf (s.pattern sf) ∧
      ((2 : ℚ) ^ (df.B + 1) ≤ |v| → classify df (t.result df) = .infinite) ∧
      (|v| < (2 : ℚ) ^ (df.B + 1) → ∃ w, value df (t.result df) = some w ∧ |w| ≤ |v| ∧
        ∀ (r : Pattern df) (u : ℚ), value df r = some u → |u| ≤ |v| → |u| ≤ |w|) ∧
      (|v| < (2 : ℚ) ^ (1 - (df.B : ℤ) - (df.M : ℤ)) → classify df (t.result df) = .zero)

/-- The four ranges of the exponent field of a Normal operand that decide the class of its narrowing, and the inequality
they rest on (42_convert.md R130, R133, general forms). -/
def Obligations.NarrowingOutcomeByExponentRange : Prop :=
  ∀ (sf df : Format) (s : State), df.W < sf.W → s.req.aLen.toNat = sf.NB → classify sf (s.pattern sf) = .normal →
    df.M ≤ sf.B - df.B ∧
    ∃ t, exec (Op.cvt sf df).instr s = .next t ∧
      (classify df (t.result df) = .infinite ↔ df.EMAX + (sf.B - df.B) ≤ expf sf (s.pattern sf)) ∧
      (classify df (t.result df) = .normal ↔
        1 + (sf.B - df.B) ≤ expf sf (s.pattern sf) ∧ expf sf (s.pattern sf) ≤ df.EMAX - 1 + (sf.B - df.B)) ∧
      (classify df (t.result df) = .subnormal ↔
        sf.B - df.B - df.M + 1 ≤ expf sf (s.pattern sf) ∧ expf sf (s.pattern sf) ≤ sf.B - df.B) ∧
      (classify df (t.result df) = .zero ↔ expf sf (s.pattern sf) ≤ sf.B - df.B - df.M)

/-- 42_convert.md R137: the class of the result by the class of the operand, and what becomes of a NaN's payload. -/
def Obligations.ResultClassByOperandClass : Prop :=
  ∀ (sf df : Format) (s : State), s.req.aLen.toNat = sf.NB → ∃ t, exec (Op.cvt sf df).instr s = .next t ∧
    (sf.W = df.W → classify df (t.result df) = classify sf (s.pattern sf) ∧
      (t.result df).toNat = (s.pattern sf).toNat) ∧
    (sf.W < df.W →
      classify df (t.result df) =
        (if classify sf (s.pattern sf) = .subnormal then .normal else classify sf (s.pattern sf)) ∧
      ((classify sf (s.pattern sf)).isNaN = true →
        mantf df (t.result df) = mantf sf (s.pattern sf) * 2 ^ (df.M - sf.M))) ∧
    (df.W < sf.W →
      (classify sf (s.pattern sf) = .zero → classify df (t.result df) = .zero) ∧
      (classify sf (s.pattern sf) = .subnormal → classify df (t.result df) = .zero) ∧
      (classify sf (s.pattern sf) = .infinite → classify df (t.result df) = .infinite) ∧
      ((classify sf (s.pattern sf)).isNaN = true →
        classify df (t.result df) = .qnan ∧ mantf df (t.result df) = 2 ^ (df.M - 1)) ∧
      (classify sf (s.pattern sf) = .normal →
        classify df (t.result df) ∈ [FpClass.infinite, .normal, .subnormal, .zero]))

/-- 42_convert.md R128: every NaN narrows to the canonical quiet NaN of its sign; the ten patterns of the table. -/
def Obligations.NarrowedNaNsAreCanonical : Prop :=
  ∀ (sf df : Format) (s : State), df.W < sf.W → s.req.aLen.toNat = sf.NB →
    (classify sf (s.pattern sf)).isNaN = true →
    exec (Op.cvt sf df).instr s = .next ⟨s.req,
      resultResponse df
        (match df, sign sf (s.pattern sf) with
        | .quarter, false => 0x7c
        | .quarter, true => 0xfc
        | .half, false => 0x7e00
        | .half, true => 0xfe00
        | .single, false => 0x7fc00000
        | .single, true => 0xffc00000
        | .double, false => 0x7ff8000000000000
        | .double, true => 0xfff8000000000000
        | .quadruple, false => 0x7fff8000000000000000000000000000
        | .quadruple, true => 0xffff8000000000000000000000000000
        | .octuple, _ => 0)⟩

/-- 42_convert.md R138: the sign bit of the result is the operand's, in every case of every pair. -/
def Obligations.ConversionKeepsSign : Prop :=
  ∀ (sf df : Format) (s : State), s.req.aLen.toNat = sf.NB →
    ∃ t, exec (Op.cvt sf df).instr s = .next t ∧ sign df (t.result df) = sign sf (s.pattern sf)

/-! ### NEG -/

/-- 43_negate.md R150: `NEG` completes on every pattern, adds or takes away 2^(W−1), and leaves the class as it was. -/
def Obligations.NegFlipsSignBitOnly : Prop :=
  ∀ (f : Format) (s : State), s.req.aLen.toNat = f.NB →
    exec (Op.neg f).instr s = .next ⟨s.req,
      resultResponse f
        (if Raw.operand f s.req.aData < 2 ^ (f.W - 1) then Raw.operand f s.req.aData + 2 ^ (f.W - 1)
        else Raw.operand f s.req.aData - 2 ^ (f.W - 1))⟩ ∧
    sign f (negate f (s.pattern f)) = !sign f (s.pattern f) ∧
    expf f (negate f (s.pattern f)) = expf f (s.pattern f) ∧
    mantf f (negate f (s.pattern f)) = mantf f (s.pattern f) ∧
    classify f (negate f (s.pattern f)) = classify f (s.pattern f)

/-- 43_negate.md R151: `NEG` twice, as the script of the rule, gives the operand back, every NaN among them. -/
def Obligations.NegTwiceIsIdentity : Prop :=
  ∀ (f : Format) (bs : List Byte), bs.length = f.NB → ∃ r₁ r₂,
    runScript [(1, .neg f (.bytes bs)), (2, .neg f (.resultOf 1))] [] = some [(2, r₂), (1, r₁)] ∧
      r₂.err = 0 ∧ r₂.rLen.toNat = f.NB ∧ r₂.rData.toNat = bigEndian bs

/-- 43_negate.md R152: the value of the result is the value of the operand with its sign changed; for Zero the numbers are
equal and the patterns differ. -/
def Obligations.NegNegatesValue : Prop :=
  ∀ (f : Format) (s : State) (v : ℚ), s.req.aLen.toNat = f.NB → value f (s.pattern f) = some v →
    ∃ t, exec (Op.neg f).instr s = .next t ∧ value f (t.result f) = some (-v) ∧ t.result f ≠ s.pattern f

/-! ### Invariant and reset -/

/-- From every state, whatever its response ports show, a step gives a state whose response is legal: idle is all zeros, an
error is bare, a success has a whole result buffer, the class code is one of six and agrees with the predicates. That a step
without a request drives the idle response is the model's own choice (notes/assumptions/4.md). -/
def Obligations.StepEstablishesLegalResponse : Prop :=
  ∀ s t : State, step s = .next t → t.Inv

/-- The state the model starts from: no request presented and the idle response, which is legal, and a step leaves it as it
is. All three are the model's: the request ports' value (DESIGN CHOICE, notes/assumptions/2.md), the idle response at reset,
which the spec gives for `req_valid` = 0 and no reset (DEDUCED, notes/assumptions/3.md), and that step answers without a
request (DESIGN CHOICE, notes/assumptions/4.md). -/
def Obligations.ResetShowsIdleResponse : Prop :=
  State.reset.req.reqValid = false ∧ State.reset.rsp = .idle ∧ State.reset.Inv ∧ step State.reset = .next State.reset

/-! ### The pipelined implementation -/

/-- 70_reset_and_hazards.md R185, in the pipeline beside the machine (notes/assumptions/8.md): an implementation with `LATENCY` = L answers the request of cycle t in cycle t + L, one
response per request in request order, with the same function; before the first answer it shows the idle response. -/
def Obligations.PipelineDelaysByLatency : Prop :=
  ∀ (latency : Nat) (qs : List RequestPorts),
    Pipe.run (qs.map fun q => (false, q)) (Pipe.empty latency) =
      (List.replicate latency ResponsePorts.idle ++ qs.map respond).take qs.length

/-- 70_reset_and_hazards.md R180, in the pipeline beside the machine (notes/assumptions/8.md): a cycle of reset shows the idle response, and after it only requests presented after it
are answered, whatever was in flight. -/
def Obligations.PipelineResetDropsRequests : Prop :=
  ∀ (before : List (Bool × RequestPorts)) (q : RequestPorts) (qs : List RequestPorts) (p : Pipe),
    (Pipe.run (before ++ (true, q) :: qs.map fun q => (false, q)) p).drop before.length =
      .idle :: (List.replicate p.latency ResponsePorts.idle ++ qs.map respond).take qs.length

/-! ### Assembler -/

/-- Lines of text and the requests they write (30_encoding.md R66, R68). A blank after a comma or a colon is as the spec
prints its lines (notes/assumptions/10.md). -/
def Obligations.AssemblerReadsWrittenOutLines : Prop :=
  parseRequest "UNPACK.8 0x7c00".toList = some (.unpack .quarter (.bytes [0x7c, 0x00])) ∧
  parseRequest "neg.256 0x".toList = some (.neg .octuple (.bytes [])) ∧
  parseRequest "PACK.16 1, 30, 0x3ff".toList = some (.pack .half (.number 1) (.number 30) (.number 1023)) ∧
  parseRequest "CVT.32.8 t1.r".toList = some (.cvt .single .quarter (.resultOf 1)) ∧
  parseLine "t2: PACK.16 1, t1.e, 0x200".toList = some (2, .pack .half (.number 1) (.expOf 1) (.number 512)) ∧
  parseRequest ".cmd 0x0005".toList = some (.raw 5) ∧
  parseRequest "CLASS.8 0x123".toList = none

/-- A line that names an operation presents that operation's own command word, so the block runs that instruction; the
ports it does not set are 0 (30_encoding.md R66). -/
def Obligations.AssembledLineRunsItsInstruction : Prop :=
  ∀ (f g : Format) (a : BufferArg) (x y z : NumberArg) (env : Collected) (q : RequestPorts) (s : State),
    (assemble env (.unpack f a) = some q →
      step (s.present q) = exec (Op.unpack f).instr (s.present q) ∧ q.fSign = false ∧ q.fExp = 0 ∧ q.fMant = 0) ∧
    (assemble env (.classify f a) = some q →
      step (s.present q) = exec (Op.classify f).instr (s.present q) ∧ q.fSign = false ∧ q.fExp = 0 ∧ q.fMant = 0) ∧
    (assemble env (.cvt f g a) = some q →
      step (s.present q) = exec (Op.cvt f g).instr (s.present q) ∧ q.fSign = false ∧ q.fExp = 0 ∧ q.fMant = 0) ∧
    (assemble env (.neg f a) = some q →
      step (s.present q) = exec (Op.neg f).instr (s.present q) ∧ q.fSign = false ∧ q.fExp = 0 ∧ q.fMant = 0) ∧
    (assemble env (.pack f x y z) = some q →
      step (s.present q) = exec (Op.pack f).instr (s.present q) ∧ q.aLen = 0 ∧ q.aData = 0)
end

