-- ==== Sys2Proof/Laws/Formats.lean ====
section
/-! SUPPORT. Arithmetic of the format parameters (00_scope.md R6, 42_convert.md R133). -/

namespace Sys2Proof

theorem Format.W_eq (f : Format) : f.W = 1 + f.E + f.M := by cases f <;> rfl
theorem Format.E_le (f : Format) : f.E ≤ 19 := by cases f <;> decide
theorem Format.M_le (f : Format) : f.M ≤ 236 := by cases f <;> decide
theorem Format.W_le (f : Format) : f.W ≤ 256 := by cases f <;> decide
theorem Format.E_ge (f : Format) : 4 ≤ f.E := by cases f <;> decide
theorem Format.M_ge (f : Format) : 3 ≤ f.M := by cases f <;> decide
theorem Format.eight_mul_NB (f : Format) : 8 * f.NB = f.W := by cases f <;> rfl
theorem Format.NB_lt (f : Format) : f.NB < 2 ^ 6 := by cases f <;> decide

/-- EMAX = 2B + 1. -/
theorem Format.EMAX_eq (f : Format) : f.EMAX = 2 * f.B + 1 := by cases f <;> rfl

theorem Format.two_pow_E (f : Format) : 2 ^ f.E = f.EMAX + 1 := by cases f <;> rfl

@[simp] theorem Format.toNat_ofNat_NB (f : Format) : (BitVec.ofNat 6 f.NB).toNat = f.NB := by cases f <;> rfl

/-- Formats are told apart by their widths. -/
theorem Format.W_inj {f g : Format} (h : f.W = g.W) : f = g := by
  cases f <;> cases g <;> first | rfl | exact absurd h (by decide)

/-- The facts about a narrower and a wider format that conversion rests on: E, M and B grow, and the bias grows by at
least the narrower mantissa width (42_convert.md R133). -/
theorem Format.wider {f g : Format} (h : f.W < g.W) : f.E < g.E ∧ f.M < g.M ∧ f.B + f.M ≤ g.B := by
  cases f <;> cases g <;> first | exact absurd h (by decide) | decide

end Sys2Proof
end

