-- ==== Sys2Proof/Laws/Codec.lean ====
section
/-! SUPPORT. The fields of a pattern as arithmetic on its number, and the number of a packed pattern. -/

namespace Sys2Proof

theorem expf_eq (f : Format) (p : Pattern f) : expf f p = p.toNat / 2 ^ f.M % 2 ^ f.E := by
  simp [expf, BitVec.extractLsb'_toNat, Nat.shiftRight_eq_div_pow]

theorem mantf_eq (f : Format) (p : Pattern f) : mantf f p = p.toNat % 2 ^ f.M := by
  simp [mantf, BitVec.extractLsb'_toNat]

theorem sign_eq (f : Format) (p : Pattern f) : sign f p = decide (p.toNat / 2 ^ (f.W - 1) % 2 = 1) := by
  simp [sign, BitVec.getLsbD, Nat.testBit_eq_decide_div_mod_eq]

theorem expf_lt (f : Format) (p : Pattern f) : expf f p < 2 ^ f.E := by
  rw [expf_eq]; exact Nat.mod_lt _ (by positivity)

theorem expf_le (f : Format) (p : Pattern f) : expf f p ≤ f.EMAX := by
  have := expf_lt f p
  rw [f.two_pow_E] at this
  omega

theorem mantf_lt (f : Format) (p : Pattern f) : mantf f p < 2 ^ f.M := by
  rw [mantf_eq]; exact Nat.mod_lt _ (by positivity)

/-- The quiet bit is set exactly when the mantissa field is at least 2^(M−1) (41_classify.md R100). -/
theorem quietBit_eq (f : Format) (p : Pattern f) : p.getLsbD (f.M - 1) = decide (2 ^ (f.M - 1) ≤ mantf f p) := by
  have hM : 2 ^ f.M = 2 ^ (f.M - 1) * 2 := by
    rw [← pow_succ]; congr 1; have := f.M_ge; omega
  have h : p.toNat % 2 ^ f.M / 2 ^ (f.M - 1) = p.toNat / 2 ^ (f.M - 1) % 2 := by
    rw [hM, Nat.mod_mul_right_div_self]
  have hlt : p.toNat % 2 ^ f.M < 2 ^ (f.M - 1) * 2 := by rw [← hM]; exact Nat.mod_lt _ (by positivity)
  have hd : p.toNat % 2 ^ f.M / 2 ^ (f.M - 1) < 2 := Nat.div_lt_of_lt_mul hlt
  rw [mantf_eq, BitVec.getLsbD, Nat.testBit_eq_decide_div_mod_eq, ← h, decide_eq_decide]
  constructor
  · intro e
    exact (Nat.one_le_div_iff (by positivity)).1 (by omega)
  · intro e
    have := (Nat.one_le_div_iff (b := 2 ^ (f.M - 1)) (by positivity)).2 e
    omega

/-- The number of a packed pattern (40_codec.md R86, second line). -/
theorem mk_toNat (f : Format) (s : Bool) {e m : Nat} (he : e ≤ f.EMAX) (hm : m < 2 ^ f.M) :
    (mk f s e m).toNat = s.toNat * 2 ^ (f.W - 1) + e * 2 ^ f.M + m := by
  have he' : e < 2 ^ f.E := by rw [f.two_pow_E]; omega
  have hs : s.toNat < 2 := by cases s <;> decide
  have hW : f.W = 1 + f.E + f.M := f.W_eq
  have hW1 : 2 ^ (f.W - 1) = 2 ^ f.E * 2 ^ f.M := by
    rw [← pow_add]; congr 1; omega
  have hW2 : 2 ^ f.W = 2 * (2 ^ f.E * 2 ^ f.M) := by
    rw [← hW1, ← pow_succ']; congr 1; omega
  have hlt : e * 2 ^ f.M + m < 2 ^ f.E * 2 ^ f.M := by
    calc e * 2 ^ f.M + m < e * 2 ^ f.M + 2 ^ f.M := by omega
      _ = (e + 1) * 2 ^ f.M := by ring
      _ ≤ 2 ^ f.E * 2 ^ f.M := Nat.mul_le_mul_right _ he'
  have hn : (((BitVec.ofBool s ++ BitVec.ofNat f.E e) ++ BitVec.ofNat f.M m)).toNat
      = s.toNat * 2 ^ (f.W - 1) + e * 2 ^ f.M + m := by
    rw [BitVec.toNat_append, BitVec.toNat_append, BitVec.toNat_ofNat, BitVec.toNat_ofNat, Nat.mod_eq_of_lt he',
      Nat.mod_eq_of_lt hm, ← Nat.shiftLeft_add_eq_or_of_lt he', ← Nat.shiftLeft_add_eq_or_of_lt hm,
      Nat.shiftLeft_eq, Nat.shiftLeft_eq, BitVec.toNat_ofBool, hW1]
    ring
  rw [mk, BitVec.toNat_setWidth, hn, Nat.mod_eq_of_lt]
  rw [hW2, hW1]
  have : s.toNat * (2 ^ f.E * 2 ^ f.M) ≤ 1 * (2 ^ f.E * 2 ^ f.M) := Nat.mul_le_mul_right _ (by omega)
  omega

end Sys2Proof
end

