-- ==== Sys2Proof/Laws/Decode.lean ====
section
/-! SUPPORT. An instruction and its operation are two names of one thing. -/

namespace Sys2Proof

@[simp] theorem Op.op_instr (o : Op) : o.instr.op = o := by
  cases o with
  | unpack f => cases f <;> rfl
  | pack f => cases f <;> rfl
  | classify f => cases f <;> rfl
  | cvt sf df => cases sf <;> cases df <;> rfl
  | neg f => cases f <;> rfl

@[simp] theorem Instr.instr_op (i : Instr) : i.op.instr = i := by cases i <;> rfl

end Sys2Proof
end

