-- ==== Sys2Proof/Laws/State.lean ====
section
/-! SUPPORT. One lemma per field and update of the state and of the ports. -/

namespace Sys2Proof.Machine

@[simp] theorem State.present_req (s : State) (q : RequestPorts) : (s.present q).req = q := rfl
@[simp] theorem State.present_rsp (s : State) (q : RequestPorts) : (s.present q).rsp = s.rsp := rfl
@[simp] theorem State.drive_req (s : State) (r : ResponsePorts) : (s.drive r).req = s.req := rfl
@[simp] theorem State.drive_rsp (s : State) (r : ResponsePorts) : (s.drive r).rsp = r := rfl
@[simp] theorem State.drive_present (s : State) (q : RequestPorts) (r : ResponsePorts) :
    (s.drive r).present q = (s.present q).drive r := rfl

@[simp] theorem State.withFetchWord_rsp (s : State) (n w : Nat) : (s.withFetchWord n w).rsp = s.rsp := rfl
@[simp] theorem State.withFetchWord_reqValid (s : State) (n w : Nat) : (s.withFetchWord n w).req.reqValid = true := rfl
@[simp] theorem State.withFetchWord_cmd (s : State) (n w : Nat) :
    (s.withFetchWord n w).req.cmd = BitVec.ofNat 16 (w % 2 ^ n) := rfl

@[simp] theorem State.presentResult_rsp (s : State) (w : CommandWord) : (s.presentResult w).rsp = s.rsp := rfl
@[simp] theorem State.presentResult_reqValid (s : State) (w : CommandWord) :
    (s.presentResult w).req.reqValid = true := rfl
@[simp] theorem State.presentResult_cmd (s : State) (w : CommandWord) : (s.presentResult w).req.cmd = w := rfl
@[simp] theorem State.presentResult_aLen (s : State) (w : CommandWord) :
    (s.presentResult w).req.aLen = s.rsp.rLen := rfl
@[simp] theorem State.presentResult_aData (s : State) (w : CommandWord) :
    (s.presentResult w).req.aData = s.rsp.rData := rfl

@[simp] theorem State.presentFields_rsp (s : State) (w : CommandWord) : (s.presentFields w).rsp = s.rsp := rfl
@[simp] theorem State.presentFields_reqValid (s : State) (w : CommandWord) :
    (s.presentFields w).req.reqValid = true := rfl
@[simp] theorem State.presentFields_cmd (s : State) (w : CommandWord) : (s.presentFields w).req.cmd = w := rfl
@[simp] theorem State.presentFields_fSign (s : State) (w : CommandWord) :
    (s.presentFields w).req.fSign = s.rsp.oSign := rfl
@[simp] theorem State.presentFields_fExp (s : State) (w : CommandWord) :
    (s.presentFields w).req.fExp = s.rsp.oExp := rfl
@[simp] theorem State.presentFields_fMant (s : State) (w : CommandWord) :
    (s.presentFields w).req.fMant = s.rsp.oMant := rfl

@[simp] theorem raise_rspValid (e : ErrorCode) : (raise e).rspValid = true := rfl
@[simp] theorem raise_err (e : ErrorCode) : (raise e).err = e.code := rfl
@[simp] theorem raise_rLen (e : ErrorCode) : (raise e).rLen = 0 := rfl
@[simp] theorem raise_rData (e : ErrorCode) : (raise e).rData = 0 := rfl

@[simp] theorem accepted_rspValid : ResponsePorts.accepted.rspValid = true := rfl
@[simp] theorem accepted_err : ResponsePorts.accepted.err = 0 := rfl

@[simp] theorem withResult_rspValid (r : ResponsePorts) (f : Format) (p : Pattern f) :
    (r.withResult f p).rspValid = r.rspValid := rfl
@[simp] theorem withResult_err (r : ResponsePorts) (f : Format) (p : Pattern f) : (r.withResult f p).err = r.err := rfl
@[simp] theorem withResult_rLen (r : ResponsePorts) (f : Format) (p : Pattern f) :
    (r.withResult f p).rLen = BitVec.ofNat 6 f.NB := rfl
@[simp] theorem withResult_rData (r : ResponsePorts) (f : Format) (p : Pattern f) :
    (r.withResult f p).rData = p.setWidth 256 := rfl

@[simp] theorem responseOf_ok (r : ResponsePorts) : responseOf (.ok r) = r := rfl
@[simp] theorem responseOf_error (e : ErrorCode) : responseOf (.error e) = raise e := rfl

end Sys2Proof.Machine
end

