-- ==== Sys2Proof/Laws/Exec.lean ====
section
/-! SUPPORT. What the shared operations, `exec` and `step` can do, said once each. -/

namespace Sys2Proof.Machine

/-- `exec` answers with what the instruction's operation performs (30_encoding.md R59). -/
theorem exec_eq_perform (i : Instr) (s : State) : exec i s = answer s (perform i.op s.req) := by cases i <;> rfl

theorem exec_instr (o : Op) (s : State) : exec o.instr s = answer s (perform o s.req) := by
  rw [exec_eq_perform, Op.op_instr]

/-- An answer is a next state that changes the response ports alone. -/
theorem answer_eq (s : State) (x : Except ErrorCode ResponsePorts) : answer s x = .next (s.drive (responseOf x)) := rfl

theorem step_of_idle {s : State} (h : s.req.reqValid = false) : step s = .next (s.drive .idle) := by
  simp [step, h, answerIdle]

theorem step_of_legal {s : State} {i : Instr} (h : s.req.reqValid = true) (hd : decode s.req.cmd = .ok i) :
    step s = answer s (perform i.op s.req) := by
  simp [step, h, hd, exec_eq_perform]

theorem step_of_illegal {s : State} {e : IllegalReason} (h : s.req.reqValid = true)
    (hd : decode s.req.cmd = .error e) : step s = .next (s.drive (raise .illegalCommand)) := by
  simp [step, h, hd, answerIllegal, answer]

/-- The length check passes. -/
theorem operand_of_length {f : Format} {q : RequestPorts} (h : q.aLen.toNat = f.NB) :
    operand f q = .ok (q.aData.setWidth f.W) := by simp [operand, h]

/-- The length check fails. -/
theorem operand_of_wrong_length {f : Format} {q : RequestPorts} (h : q.aLen.toNat ≠ f.NB) :
    operand f q = .error .lengthError := by simp [operand, h]

/-- An operation on an operand of the right length answers with what it computes of the pattern. -/
theorem onOperand_of_length {f : Format} {q : RequestPorts} (k : Pattern f → ResponsePorts)
    (h : q.aLen.toNat = f.NB) : onOperand f q k = .ok (k (q.aData.setWidth f.W)) := by
  simp [onOperand, operand_of_length h]

/-- An operation on an operand of a wrong length ends in `LengthError`, whatever it would have computed. -/
theorem onOperand_of_wrong_length {f : Format} {q : RequestPorts} (k : Pattern f → ResponsePorts)
    (h : q.aLen.toNat ≠ f.NB) : onOperand f q k = .error .lengthError := by
  simp [onOperand, operand_of_wrong_length h]

/-- `PACK` of fields in range. -/
theorem pack_of_range {f : Format} {q : RequestPorts} (he : q.fExp.toNat ≤ f.EMAX) (hm : q.fMant.toNat < 2 ^ f.M) :
    pack f q = .ok (ResponsePorts.accepted.withResult f (mk f q.fSign q.fExp.toNat q.fMant.toNat)) := by
  have h : ¬ (f.EMAX < q.fExp.toNat ∨ 2 ^ f.M ≤ q.fMant.toNat) := by omega
  simp only [pack, if_neg h]

/-- `PACK` of a field too wide. -/
theorem pack_of_overflow {f : Format} {q : RequestPorts} (h : f.EMAX < q.fExp.toNat ∨ 2 ^ f.M ≤ q.fMant.toNat) :
    pack f q = .error .fieldError := by
  simp only [pack, if_pos h]

end Sys2Proof.Machine
end

