-- ==== Sys2Proof/Laws/Flags.lean ====
section
/-! SUPPORT. When a pattern is in a class, in terms of its fields (41_classify.md R100). -/

namespace Sys2Proof

theorem classify_zero_iff (f : Format) (p : Pattern f) : classify f p = .zero ↔ expf f p = 0 ∧ mantf f p = 0 := by
  unfold classify; split_ifs <;> simp_all

theorem classify_subnormal_iff (f : Format) (p : Pattern f) :
    classify f p = .subnormal ↔ expf f p = 0 ∧ mantf f p ≠ 0 := by
  unfold classify; split_ifs <;> simp_all

theorem classify_normal_iff (f : Format) (p : Pattern f) :
    classify f p = .normal ↔ 0 < expf f p ∧ expf f p < f.EMAX := by
  unfold classify; split_ifs <;> simp_all
  omega

theorem classify_infinite_iff (f : Format) (p : Pattern f) :
    classify f p = .infinite ↔ expf f p = f.EMAX ∧ mantf f p = 0 := by
  have hle := expf_le f p
  have hE : f.EMAX ≠ 0 := by cases f <;> decide
  unfold classify; split_ifs <;> simp_all <;> omega

theorem classify_qnan_iff (f : Format) (p : Pattern f) :
    classify f p = .qnan ↔ expf f p = f.EMAX ∧ 2 ^ (f.M - 1) ≤ mantf f p := by
  have hle := expf_le f p
  have hE : f.EMAX ≠ 0 := by cases f <;> decide
  have hM : 0 < 2 ^ (f.M - 1) := by positivity
  unfold classify
  rw [quietBit_eq]
  split_ifs <;> simp_all <;> omega

theorem classify_snan_iff (f : Format) (p : Pattern f) :
    classify f p = .snan ↔ expf f p = f.EMAX ∧ 0 < mantf f p ∧ mantf f p < 2 ^ (f.M - 1) := by
  have hle := expf_le f p
  have hE : f.EMAX ≠ 0 := by cases f <;> decide
  unfold classify
  rw [quietBit_eq]
  split_ifs <;> simp_all <;> omega

theorem classify_nan_iff (f : Format) (p : Pattern f) :
    (classify f p).isNaN = true ↔ expf f p = f.EMAX ∧ mantf f p ≠ 0 := by
  have hle := expf_le f p
  have hE : f.EMAX ≠ 0 := by cases f <;> decide
  unfold classify; split_ifs <;> simp_all [FpClass.isNaN] <;> omega

end Sys2Proof
end

