-- ==== Sys2Proof/Laws/Convert.lean ====
section
/-! SUPPORT. Which rule a conversion follows, and that every field it packs is in range (42_convert.md R124, R125, R130). -/

namespace Sys2Proof.Machine

theorem convert_of_same {sf df : Format} (h : df.W = sf.W) (p : Pattern sf) : convert sf df p = p.setWidth df.W := by
  simp [convert, h]

theorem convert_of_wider {sf df : Format} (h : sf.W < df.W) (p : Pattern sf) : convert sf df p = widen sf df p := by
  rw [convert, if_neg (by omega), if_pos h]

theorem convert_of_narrower {sf df : Format} (h : df.W < sf.W) (p : Pattern sf) :
    convert sf df p = narrow sf df p := by
  rw [convert, if_neg (by omega), if_neg (by omega)]

/-- A conversion of an operand of the right length answers with the converted pattern. -/
theorem exec_cvt_of_length {sf df : Format} {s : State} (h : s.req.aLen.toNat = sf.NB) :
    exec (Op.cvt sf df).instr s =
      .next (s.drive (ResponsePorts.accepted.withResult df (convert sf df (s.req.aData.setWidth sf.W)))) := by
  rw [exec_instr, perform, cvt, onOperand_of_length _ h, answer_eq, responseOf_ok]

/-- The fields of a widened Normal are in range, and the exponent is a Normal's (42_convert.md R124). -/
theorem widenNormal_range {sf df : Format} (h : sf.W < df.W) {e m : Nat} (h0 : 0 < e) (h1 : e < sf.EMAX)
    (hm : m < 2 ^ sf.M) :
    0 < e + df.B - sf.B ∧ e + df.B - sf.B < df.EMAX ∧ m <<< (df.M - sf.M) < 2 ^ df.M := by
  obtain ⟨-, hM, hB⟩ := Format.wider h
  have hs := sf.EMAX_eq
  have hd := df.EMAX_eq
  refine ⟨by omega, by omega, ?_⟩
  rw [Nat.shiftLeft_eq, ← Nat.sub_add_cancel hM.le, pow_add, mul_comm (2 ^ (df.M - sf.M)), Nat.add_sub_cancel]
  exact Nat.mul_lt_mul_of_pos_right hm (by positivity)

/-- The fields of a widened Subnormal are in range, and the exponent is a Normal's (42_convert.md R125). -/
theorem widenSubnormal_range {sf df : Format} (h : sf.W < df.W) {m : Nat} (h0 : m ≠ 0) (hm : m < 2 ^ sf.M) :
    0 < floorLog2 m + 1 + df.B - sf.B - sf.M ∧ floorLog2 m + 1 + df.B - sf.B - sf.M < df.EMAX ∧
      (m - 2 ^ floorLog2 m) <<< (df.M - floorLog2 m) < 2 ^ df.M := by
  obtain ⟨-, hM, hB⟩ := Format.wider h
  have hk : floorLog2 m < sf.M := (Nat.log2_lt h0).2 hm
  have hd := df.EMAX_eq
  refine ⟨by omega, by omega, ?_⟩
  have hlt : m < 2 ^ (floorLog2 m + 1) := Nat.lt_log2_self
  rw [pow_succ] at hlt
  have hsub : m - 2 ^ floorLog2 m < 2 ^ floorLog2 m := by omega
  rw [Nat.shiftLeft_eq]
  calc _ < 2 ^ floorLog2 m * 2 ^ (df.M - floorLog2 m) := Nat.mul_lt_mul_of_pos_right hsub (by positivity)
    _ = 2 ^ df.M := by rw [← pow_add]; congr 1; omega

/-- The mantissa field of a Normal narrowed to a Normal is in range (42_convert.md R130, case 2). -/
theorem narrow_truncated_lt {sf df : Format} (h : df.W < sf.W) {m : Nat} (hm : m < 2 ^ sf.M) :
    m >>> (sf.M - df.M) < 2 ^ df.M := by
  obtain ⟨-, hM, -⟩ := Format.wider h
  rw [Nat.shiftRight_eq_div_pow]
  apply Nat.div_lt_of_lt_mul
  rw [← pow_add]
  rwa [Nat.sub_add_cancel hM.le]

/-- The mantissa field of a Normal narrowed below the Normal range is in range (42_convert.md R130, cases 3 and 4). -/
theorem narrow_denormalised_lt {sf df : Format} (h : df.W < sf.W) {m k : Nat} (hm : m < 2 ^ sf.M)
    (hk : sf.M - df.M + 1 ≤ k) : (2 ^ sf.M + m) >>> k < 2 ^ df.M := by
  obtain ⟨-, hM, -⟩ := Format.wider h
  rw [Nat.shiftRight_eq_div_pow]
  apply Nat.div_lt_of_lt_mul
  calc 2 ^ sf.M + m < 2 ^ (sf.M + 1) := by rw [pow_succ]; omega
    _ ≤ 2 ^ (k + df.M) := Nat.pow_le_pow_right (by decide) (by omega)
    _ = 2 ^ k * 2 ^ df.M := by rw [pow_add]

end Sys2Proof.Machine
end

