-- ==== Sys2Proof/Laws/PerInstr.lean ====
section
/-! SUPPORT. Statements made once per instruction. -/

namespace Sys2Proof.Laws

/-- The command word of an instruction is the one its operation and formats number, its fields are legal, and it decodes
to the instruction again (30_encoding.md R55, R59, R61). -/
def Encoding.Statement (i : Instr) : Prop :=
  decode (encode i) = .ok i ∧ (Command.ofWord (encode i)).wellFormed = true

theorem Encoding.unpack8 : Encoding.Statement .unpack8 := ⟨rfl, rfl⟩
theorem Encoding.pack8 : Encoding.Statement .pack8 := ⟨rfl, rfl⟩
theorem Encoding.class8 : Encoding.Statement .class8 := ⟨rfl, rfl⟩
theorem Encoding.cvt8to8 : Encoding.Statement .cvt8to8 := ⟨rfl, rfl⟩
theorem Encoding.neg8 : Encoding.Statement .neg8 := ⟨rfl, rfl⟩
theorem Encoding.unpack16 : Encoding.Statement .unpack16 := ⟨rfl, rfl⟩
theorem Encoding.pack16 : Encoding.Statement .pack16 := ⟨rfl, rfl⟩
theorem Encoding.class16 : Encoding.Statement .class16 := ⟨rfl, rfl⟩
theorem Encoding.cvt16to8 : Encoding.Statement .cvt16to8 := ⟨rfl, rfl⟩
theorem Encoding.neg16 : Encoding.Statement .neg16 := ⟨rfl, rfl⟩
theorem Encoding.unpack32 : Encoding.Statement .unpack32 := ⟨rfl, rfl⟩
theorem Encoding.pack32 : Encoding.Statement .pack32 := ⟨rfl, rfl⟩
theorem Encoding.class32 : Encoding.Statement .class32 := ⟨rfl, rfl⟩
theorem Encoding.cvt32to8 : Encoding.Statement .cvt32to8 := ⟨rfl, rfl⟩
theorem Encoding.neg32 : Encoding.Statement .neg32 := ⟨rfl, rfl⟩
theorem Encoding.unpack64 : Encoding.Statement .unpack64 := ⟨rfl, rfl⟩
theorem Encoding.pack64 : Encoding.Statement .pack64 := ⟨rfl, rfl⟩
theorem Encoding.class64 : Encoding.Statement .class64 := ⟨rfl, rfl⟩
theorem Encoding.cvt64to8 : Encoding.Statement .cvt64to8 := ⟨rfl, rfl⟩
theorem Encoding.neg64 : Encoding.Statement .neg64 := ⟨rfl, rfl⟩
theorem Encoding.unpack128 : Encoding.Statement .unpack128 := ⟨rfl, rfl⟩
theorem Encoding.pack128 : Encoding.Statement .pack128 := ⟨rfl, rfl⟩
theorem Encoding.class128 : Encoding.Statement .class128 := ⟨rfl, rfl⟩
theorem Encoding.cvt128to8 : Encoding.Statement .cvt128to8 := ⟨rfl, rfl⟩
theorem Encoding.neg128 : Encoding.Statement .neg128 := ⟨rfl, rfl⟩
theorem Encoding.unpack256 : Encoding.Statement .unpack256 := ⟨rfl, rfl⟩
theorem Encoding.pack256 : Encoding.Statement .pack256 := ⟨rfl, rfl⟩
theorem Encoding.class256 : Encoding.Statement .class256 := ⟨rfl, rfl⟩
theorem Encoding.cvt256to8 : Encoding.Statement .cvt256to8 := ⟨rfl, rfl⟩
theorem Encoding.neg256 : Encoding.Statement .neg256 := ⟨rfl, rfl⟩
theorem Encoding.cvt8to16 : Encoding.Statement .cvt8to16 := ⟨rfl, rfl⟩
theorem Encoding.cvt16to16 : Encoding.Statement .cvt16to16 := ⟨rfl, rfl⟩
theorem Encoding.cvt32to16 : Encoding.Statement .cvt32to16 := ⟨rfl, rfl⟩
theorem Encoding.cvt64to16 : Encoding.Statement .cvt64to16 := ⟨rfl, rfl⟩
theorem Encoding.cvt128to16 : Encoding.Statement .cvt128to16 := ⟨rfl, rfl⟩
theorem Encoding.cvt256to16 : Encoding.Statement .cvt256to16 := ⟨rfl, rfl⟩
theorem Encoding.cvt8to32 : Encoding.Statement .cvt8to32 := ⟨rfl, rfl⟩
theorem Encoding.cvt16to32 : Encoding.Statement .cvt16to32 := ⟨rfl, rfl⟩
theorem Encoding.cvt32to32 : Encoding.Statement .cvt32to32 := ⟨rfl, rfl⟩
theorem Encoding.cvt64to32 : Encoding.Statement .cvt64to32 := ⟨rfl, rfl⟩
theorem Encoding.cvt128to32 : Encoding.Statement .cvt128to32 := ⟨rfl, rfl⟩
theorem Encoding.cvt256to32 : Encoding.Statement .cvt256to32 := ⟨rfl, rfl⟩
theorem Encoding.cvt8to64 : Encoding.Statement .cvt8to64 := ⟨rfl, rfl⟩
theorem Encoding.cvt16to64 : Encoding.Statement .cvt16to64 := ⟨rfl, rfl⟩
theorem Encoding.cvt32to64 : Encoding.Statement .cvt32to64 := ⟨rfl, rfl⟩
theorem Encoding.cvt64to64 : Encoding.Statement .cvt64to64 := ⟨rfl, rfl⟩
theorem Encoding.cvt128to64 : Encoding.Statement .cvt128to64 := ⟨rfl, rfl⟩
theorem Encoding.cvt256to64 : Encoding.Statement .cvt256to64 := ⟨rfl, rfl⟩
theorem Encoding.cvt8to128 : Encoding.Statement .cvt8to128 := ⟨rfl, rfl⟩
theorem Encoding.cvt16to128 : Encoding.Statement .cvt16to128 := ⟨rfl, rfl⟩
theorem Encoding.cvt32to128 : Encoding.Statement .cvt32to128 := ⟨rfl, rfl⟩
theorem Encoding.cvt64to128 : Encoding.Statement .cvt64to128 := ⟨rfl, rfl⟩
theorem Encoding.cvt128to128 : Encoding.Statement .cvt128to128 := ⟨rfl, rfl⟩
theorem Encoding.cvt256to128 : Encoding.Statement .cvt256to128 := ⟨rfl, rfl⟩
theorem Encoding.cvt8to256 : Encoding.Statement .cvt8to256 := ⟨rfl, rfl⟩
theorem Encoding.cvt16to256 : Encoding.Statement .cvt16to256 := ⟨rfl, rfl⟩
theorem Encoding.cvt32to256 : Encoding.Statement .cvt32to256 := ⟨rfl, rfl⟩
theorem Encoding.cvt64to256 : Encoding.Statement .cvt64to256 := ⟨rfl, rfl⟩
theorem Encoding.cvt128to256 : Encoding.Statement .cvt128to256 := ⟨rfl, rfl⟩
theorem Encoding.cvt256to256 : Encoding.Statement .cvt256to256 := ⟨rfl, rfl⟩

end Sys2Proof.Laws
end

