-- ==== Sys2Proof/Laws/Pipeline.lean ====
section
/-! SUPPORT. What one cycle of the pipelined implementation does. -/

namespace Sys2Proof.Machine

theorem Pipe.latency_empty (n : Nat) : (Pipe.empty n).latency = n := by simp [Pipe.empty, Pipe.latency]

theorem Pipe.clock_reset (q : RequestPorts) (p : Pipe) : p.clock true q = (.idle, .empty p.latency) := by
  simp [Pipe.clock]

/-- A cycle keeps the number of slots: `LATENCY` is fixed in an implementation. -/
@[simp] theorem Pipe.latency_clock (reset : Bool) (q : RequestPorts) (p : Pipe) :
    (p.clock reset q).2.latency = p.latency := by
  cases reset <;> simp [Pipe.clock, Pipe.latency, Pipe.empty]

/-- With `LATENCY` = 0 the response is that of the request presented now: the reference form. -/
theorem Pipe.clock_of_no_stage (q : RequestPorts) : (Pipe.empty Config.referenceLatency).clock false q =
    (respond q, Pipe.empty Config.referenceLatency) := by
  simp [Pipe.clock, Pipe.empty, Config.referenceLatency]

end Sys2Proof.Machine
end

