-- ==== Sys2Proof/Laws/Value.lean ====
section
/-! SUPPORT. The value of a pattern of each class (41_classify.md R103). -/

namespace Sys2Proof

theorem value_of_zero {f : Format} {p : Pattern f} (h : classify f p = .zero) : value f p = some 0 := by
  simp [value, h]

theorem value_of_subnormal {f : Format} {p : Pattern f} (h : classify f p = .subnormal) : value f p =
    some (signFactor (sign f p) * ((mantf f p : ℚ) / 2 ^ f.M) * (2 : ℚ) ^ (1 - (f.B : ℤ))) := by
  simp [value, h]

theorem value_of_normal {f : Format} {p : Pattern f} (h : classify f p = .normal) : value f p =
    some (signFactor (sign f p) * (1 + (mantf f p : ℚ) / 2 ^ f.M) * (2 : ℚ) ^ ((expf f p : ℤ) - (f.B : ℤ))) := by
  simp [value, h]

theorem value_isSome_iff (f : Format) (p : Pattern f) : (value f p).isSome = isFinite f p := by
  unfold value isFinite; cases classify f p <;> rfl

@[simp] theorem abs_signFactor (s : Bool) : |signFactor s| = 1 := by cases s <;> simp [signFactor]

end Sys2Proof
end

