-- ==== Sys2Proof/Tests/Slice0.lean ====
section
/-! SUPPORT. Tests. Expected results are worked examples and vectors of 95_test_vectors.md, or hand calculation from the
rule named; none is the model's own answer. After them, for each statement with hypotheses, a state that meets them. -/

namespace Sys2Proof.Machine.Test

/-- An operand of `n` bytes with number `v` on the request ports, and the command word `w`. -/
def operandState (w : CommandWord) (n v : Nat) : State :=
  State.reset.present { RequestPorts.zero with
    reqValid := true, cmd := w, aLen := BitVec.ofNat 6 n, aData := BitVec.ofNat 256 v }

/-- The three pack fields on the request ports, and the command word `w`. -/
def fieldState (w : CommandWord) (s : Bool) (e m : Nat) : State :=
  State.reset.present { RequestPorts.zero with
    reqValid := true, cmd := w, fSign := s, fExp := BitVec.ofNat 19 e, fMant := BitVec.ofNat 236 m }

/-- The response of an outcome; the idle response where it stops. -/
def rspOf : Host.Outcome State Fault Refusal → ResponsePorts
  | .next t => t.rsp
  | .fault _ => .idle
  | .refused _ => .idle

/-! ### WellFormed: one ill-formed command for each check (30_encoding.md R62) -/

theorem test_wellFormed_accepts : (Command.mk 0 5 5 3).wellFormed = true := by decide
theorem test_wellFormed_zero : (Command.mk 1 0 0 0).wellFormed = false := by decide
theorem test_wellFormed_op : (Command.mk 0 0 0 5).wellFormed = false := by decide
theorem test_wellFormed_sf : (Command.mk 0 0 6 0).wellFormed = false := by decide
theorem test_wellFormed_df : (Command.mk 0 6 0 3).wellFormed = false := by decide
theorem test_wellFormed_df_unused : (Command.mk 0 1 0 0).wellFormed = false := by decide

/-! ### Decoding: words written out field by field, zero_df_sf_op (30_encoding.md R55 to R57) -/

theorem test_decode_unpack : decode 0b000000_000_010_0000#16 = .ok .unpack32 := by decide
theorem test_decode_pack : decode 0b000000_000_101_0001#16 = .ok .pack256 := by decide
theorem test_decode_class : decode 0b000000_000_001_0010#16 = .ok .class16 := by decide
theorem test_decode_cvt_widening : decode 0b000000_100_001_0011#16 = .ok .cvt16to128 := by decide
theorem test_decode_cvt_narrowing : decode 0b000000_001_100_0011#16 = .ok .cvt128to16 := by decide
theorem test_decode_neg : decode 0b000000_000_000_0100#16 = .ok .neg8 := by decide
theorem test_decode_reserved_bits : decode 0b000001_000_000_0000#16 = .error .reservedBits := by decide
theorem test_decode_reserved_op : decode 0b000000_000_000_1111#16 = .error .reservedOp := by decide
theorem test_decode_reserved_source : decode 0b000000_000_111_0010#16 = .error .reservedSource := by decide
theorem test_decode_reserved_destination : decode 0b000000_110_000_0011#16 = .error .reservedDestination := by decide
theorem test_decode_unused_destination : decode 0b000000_001_000_0100#16 = .error .unusedDestination := by decide

/-! ### Errors and idle (95_test_vectors.md section 2.1) -/

theorem test_reserved_op_is_illegal : rspOf (step (operandState 0x0005 1 0x38)) = raise .illegalCommand := by decide
theorem test_illegal_before_length : (rspOf (step (operandState 0x0005 0 0))).err = 1 := by decide
theorem test_empty_buffer : rspOf (step (operandState 0x0000 0 0)) = raise .lengthError := by decide
theorem test_cvt_checks_source_length : (rspOf (step (operandState 0x0083 2 0x3c00))).err = 2 := by decide
theorem test_a_len_above_32 : (rspOf (step (operandState 0x0000 33 0))).err = 2 := by decide
theorem test_idle : rspOf (step State.reset) = .idle := by decide

/-! ### UNPACK (95_test_vectors.md section 2.2) -/

theorem test_unpack8 : rspOf (exec .unpack8 (operandState 0x0000 1 0xb8)) =
    { ResponsePorts.idle with rspValid := true, rLen := 1, rData := 0xb8, oSign := true, oExp := 7 } := by decide
theorem test_unpack32 : rspOf (exec .unpack32 (operandState 0x0020 4 0xc0490fdb)) =
    { ResponsePorts.idle with
      rspValid := true, rLen := 4, rData := 0xc0490fdb, oSign := true, oExp := 128, oMant := 0x490fdb } := by decide
theorem test_unpack256 :
    (rspOf (exec .unpack256 (operandState 0x0050 32
      0x8000180000000000000000000000000000000000000000000000000000000000))).oMant =
      0x80000000000000000000000000000000000000000000000000000000000#236 := by decide

/-! ### PACK (95_test_vectors.md section 2.3) -/

theorem test_pack16 : rspOf (exec .pack16 (fieldState 0x0011 true 30 1023)) =
    { ResponsePorts.idle with rspValid := true, rLen := 2, rData := 0xfbff } := by decide
theorem test_pack8_wide_exponent : rspOf (exec .pack8 (fieldState 0x0001 false 16 0)) = raise .fieldError := by decide
theorem test_pack8_wide_mantissa : (rspOf (exec .pack8 (fieldState 0x0001 false 0 8))).err = 3 := by decide
theorem test_pack32_largest : (rspOf (exec .pack32 (fieldState 0x0021 true 255 0x7fffff))).rData = 0xffffffff := by decide
theorem test_pack256_largest : (rspOf (exec .pack256 (fieldState 0x0051 true 524287 (2 ^ 236 - 1)))).rData =
    BitVec.allOnes 256 := by decide

/-! ### CLASS (95_test_vectors.md sections 1 and 2.4) -/

theorem test_class8_negative_zero : rspOf (exec .class8 (operandState 0x0002 1 0x80)) =
    { ResponsePorts.idle with
      rspValid := true, rLen := 1, rData := 0x80, oSign := true, oFin := true, oInt := true } := by decide
theorem test_class8_ignores_high_bits : rspOf (exec .class8 (operandState 0x0002 1 (2 ^ 256 - 256 + 0x4e))) =
    { ResponsePorts.idle with rspValid := true, rLen := 1, rData := 0x4e, oCls := 2, oFin := true, oInt := true } := by
  decide
theorem test_class16_half_odd : (rspOf (exec .class16 (operandState 0x0012 2 0x63ff))).oInt = false := by decide
theorem test_class32_signaling : (rspOf (exec .class32 (operandState 0x0022 4 0xffbfffff))).oCls = 5 := by decide
theorem test_class64_quiet : (rspOf (exec .class64 (operandState 0x0032 8 0x7ff8000000000000))).oCls = 4 := by decide
theorem test_class128_infinite : (rspOf (exec .class128 (operandState 0x0042 16
    0xffff0000000000000000000000000000))).oCls = 3 := by decide
theorem test_class256_subnormal : (rspOf (exec .class256 (operandState 0x0052 32 1))).oCls = 1 := by decide

/-! ### CVT (95_test_vectors.md sections 1, 2.5 to 2.7) -/

theorem test_cvt8to8_signaling : (rspOf (exec .cvt8to8 (operandState 0x0003 1 0x79))).rData = 0x79 := by decide
theorem test_cvt8to32_subnormal : rspOf (exec .cvt8to32 (operandState 0x0103 1 0x07)) =
    { ResponsePorts.idle with rspValid := true, rLen := 4, rData := 0x3c600000 } := by decide
theorem test_cvt8to16_signaling : (rspOf (exec .cvt8to16 (operandState 0x0083 1 0xfb))).rData = 0xfd80 := by decide
theorem test_cvt16to32_subnormal : (rspOf (exec .cvt16to32 (operandState 0x0113 2 0x03ff))).rData = 0x387fc000 := by
  decide
theorem test_cvt32to64_payload : (rspOf (exec .cvt32to64 (operandState 0x01a3 4 0xffc12345))).rData =
    0xfff82468a0000000 := by decide
theorem test_cvt128to256_subnormal : (rspOf (exec .cvt128to256 (operandState 0x02c3 16 1))).rData =
    0x3bf9100000000000000000000000000000000000000000000000000000000000 := by decide
theorem test_cvt16to8_overflow : (rspOf (exec .cvt16to8 (operandState 0x0013 2 0xdc00))).rData = 0xf8 := by decide
theorem test_cvt16to8_truncates : (rspOf (exec .cvt16to8 (operandState 0x0013 2 0x3dff))).rData = 0x3b := by decide
theorem test_cvt32to16_subnormal : (rspOf (exec .cvt32to16 (operandState 0x00a3 4 0x387fffff))).rData = 0x03ff := by
  decide
theorem test_cvt32to16_negative_zero : (rspOf (exec .cvt32to16 (operandState 0x00a3 4 0xb37fffff))).rData = 0x8000 := by
  decide
theorem test_cvt64to32_tie : (rspOf (exec .cvt64to32 (operandState 0x0133 8 0xbff0000030000000))).rData =
    0xbf800001 := by decide
theorem test_cvt64to32_nan : (rspOf (exec .cvt64to32 (operandState 0x0133 8 0x7ff0000000000001))).rData =
    0x7fc00000 := by decide
theorem test_cvt256to8_underflow : (rspOf (exec .cvt256to8 (operandState 0x0053 32
    0x8000100000000000000000000000000000000000000000000000000000000000))).rData = 0x80 := by decide
theorem test_cvt256to128_floor : (rspOf (exec .cvt256to128 (operandState 0x0253 32
    0x3bf9100000000000000000000000000000000000000000000000000000000000))).rData = 1 := by decide

/-! ### NEG (95_test_vectors.md section 2.8) -/

theorem test_neg8_nan : rspOf (exec .neg8 (operandState 0x0004 1 0xfb)) =
    { ResponsePorts.idle with rspValid := true, rLen := 1, rData := 0x7b } := by decide
theorem test_neg64 : (rspOf (exec .neg64 (operandState 0x0034 8 0x400921fb54442d18))).rData =
    0xc00921fb54442d18 := by decide
theorem test_neg128_zero : (rspOf (exec .neg128 (operandState 0x0044 16 0))).rData = BitVec.twoPow 256 127 := by decide

/-! ### Assembler and scripts (30_encoding.md R66, R68) -/

theorem test_parse_buffer : parseRequest "UNPACK.8 0x7c00".toList = some (.unpack .quarter (.bytes [0x7c, 0x00])) := by
  decide
theorem test_parse_odd_digits : parseRequest "UNPACK.8 0x123".toList = none := by decide
theorem test_parse_reference : parseLine "t2: PACK.16 1, t1.e, 0x200".toList =
    some (2, .pack .half (.number 1) (.expOf 1) (.number 512)) := by decide
theorem test_assemble_wide_number : assemble [] (.pack .octuple (.number 0) (.number 524288) (.number 0)) = none := by
  decide

/-- Response slots age by one each cycle: with `LATENCY` = 1 the first cycle is idle (70_reset_and_hazards.md R185). -/
theorem test_pipeline_first_cycle :
    ((Pipe.empty 1).clock false (operandState 0x0002 1 0x38).req).1 = .idle := by decide

/-! ### Witnesses: for each statement with hypotheses, a state and operands that meet all of them together

`witness_<name>` is for `Obligations.<name>`; where a statement has several cases, there is one for each. -/

theorem witness_ReservedWordsAreIllegalCommands : (operandState 0x0400 0 0).req.reqValid = true ∧
    decode (operandState 0x0400 0 0).req.cmd = .error .reservedBits := by decide
theorem witness_StepRunsDecodedInstruction : (operandState 0x0013 2 0).req.reqValid = true ∧
    decode (operandState 0x0013 2 0).req.cmd = .ok .cvt16to8 := by decide
theorem witness_NoRequestGivesIdleResponse : State.reset.req.reqValid = false := by decide

/-- Two `PACK` requests that agree on the pack ports and differ on `a_len`. -/
theorem witness_UnreadRequestPortsAreIgnored_pack :
    (operandState 0x0001 1 0x38).req.reqValid = (operandState 0x0001 0 0).req.reqValid ∧
    (operandState 0x0001 1 0x38).req.cmd = (operandState 0x0001 0 0).req.cmd ∧
    decode (operandState 0x0001 1 0x38).req.cmd = .ok (Op.pack .quarter).instr ∧
    (operandState 0x0001 1 0x38).req.fSign = (operandState 0x0001 0 0).req.fSign ∧
    (operandState 0x0001 1 0x38).req.fExp = (operandState 0x0001 0 0).req.fExp ∧
    (operandState 0x0001 1 0x38).req.fMant = (operandState 0x0001 0 0).req.fMant ∧
    (operandState 0x0001 1 0x38).req.aLen ≠ (operandState 0x0001 0 0).req.aLen := by decide
/-- Two `CLASS` requests that agree on the operand and differ on `f_exp`. -/
theorem witness_UnreadRequestPortsAreIgnored_operand :
    (fieldState 0x0002 true 7 0).req.reqValid = (operandState 0x0002 0 0).req.reqValid ∧
    (fieldState 0x0002 true 7 0).req.cmd = (operandState 0x0002 0 0).req.cmd ∧
    (¬ ∃ f, decode (fieldState 0x0002 true 7 0).req.cmd = .ok (Op.pack f).instr) ∧
    (fieldState 0x0002 true 7 0).req.aLen = (operandState 0x0002 0 0).req.aLen ∧
    (fieldState 0x0002 true 7 0).req.aData = (operandState 0x0002 0 0).req.aData ∧
    (fieldState 0x0002 true 7 0).req.fExp ≠ (operandState 0x0002 0 0).req.fExp := by
  refine ⟨by decide, by decide, ?_, by decide, by decide, by decide⟩
  rintro ⟨f, h⟩
  revert h
  cases f <;> decide
theorem witness_BitsAboveBufferAreIgnored : (0xff38 : DataBus) ≠ (operandState 0x0002 1 0x38).req.aData ∧
    (0xff38 : DataBus).toNat % 2 ^ (8 * (operandState 0x0002 1 0x38).req.aLen.toNat) =
      (operandState 0x0002 1 0x38).req.aData.toNat % 2 ^ (8 * (operandState 0x0002 1 0x38).req.aLen.toNat) := by decide

/-- One request whose word is no instruction's, and one whose word is. -/
theorem witness_IllegalCommandDependsOnWordOnly : (operandState 0x0303 1 0).req.reqValid = true ∧
    (∀ i : Instr, encode i ≠ (operandState 0x0303 1 0).req.cmd) ∧ (operandState 0x0283 1 0).req.reqValid = true ∧
    encode .cvt8to256 = (operandState 0x0283 1 0).req.cmd := by
  refine ⟨by decide, ?_, by decide, by decide⟩
  intro i
  cases i <;> decide
/-- The right length of a Half operand, the lengths beside it, and the ends of the port's range. -/
theorem witness_LengthErrorExactlyOnWrongLength :
    (operandState 0x0012 2 0).req.aLen.toNat = Format.half.NB ∧ (operandState 0x0012 1 0).req.aLen.toNat ≠ Format.half.NB ∧
    (operandState 0x0012 3 0).req.aLen.toNat ≠ Format.half.NB ∧ (operandState 0x0012 0 0).req.aLen.toNat ≠ Format.half.NB ∧
    (operandState 0x0012 63 0).req.aLen.toNat ≠ Format.half.NB := by decide
/-- The largest fields of Half, and each field one above it. -/
theorem witness_FieldErrorExactlyOnWideField :
    ¬ (Format.half.EMAX < (fieldState 0x0011 true 31 1023).req.fExp.toNat ∨
      2 ^ Format.half.M ≤ (fieldState 0x0011 true 31 1023).req.fMant.toNat) ∧
    Format.half.EMAX < (fieldState 0x0011 true 32 0).req.fExp.toNat ∧
    2 ^ Format.half.M ≤ (fieldState 0x0011 true 0 1024).req.fMant.toNat := by decide
theorem witness_ErrorResponseIsBareAndNotReusable :
    ∃ t, step (operandState 0x0002 0 0) = .next t ∧ t.rsp.err ≠ 0 := ⟨_, rfl, by decide⟩
/-- An operation that answers with a result, and one that answers with an error. -/
theorem witness_UndrivenPortsAreZero :
    (∃ t, exec (Op.neg .quarter).instr (operandState 0x0004 1 7) = .next t ∧ t.rsp.err = 0) ∧
    (∃ t, exec (Op.neg .quarter).instr (operandState 0x0004 2 7) = .next t ∧ t.rsp.err ≠ 0) :=
  ⟨⟨_, rfl, by decide⟩, ⟨_, rfl, by decide⟩⟩

/-- Also for `PackAfterUnpackIsIdentity` and `NegTwiceIsIdentity`. -/
theorem witness_BuffersAreBigEndian : ([0x7c, 0x00] : List Byte).length = Format.half.NB ∧
    ([0x7c, 0x00] : List Byte)[0]? = some 0x7c ∧ ([0x7c, 0x00] : List Byte)[1]? = some 0x00 := by decide
/-- Also for `ClassReportsClassAndPredicates`, `FiniteIsZeroSubnormalOrNormal`, `IntegerBitAgreesWithExactValue`,
`SameWidthConversionIsIdentity`, `ConversionKeepsSign` and `NegFlipsSignBitOnly`. -/
theorem witness_UnpackReturnsStoredFields : (operandState 0x0050 32 1).req.aLen.toNat = Format.octuple.NB := by decide
theorem witness_PackAssemblesFields :
    (fieldState 0x0011 true 31 1023).req.fExp.toNat < 2 ^ Format.half.E ∧
    (fieldState 0x0011 true 31 1023).req.fMant.toNat < 2 ^ Format.half.M := by decide
theorem witness_UnpackAfterPackIsIdentity : 31 ≤ Format.half.EMAX ∧ 1023 < 2 ^ Format.half.M := by decide
theorem witness_UnpackOfPackResultReturnsFields :
    (fieldState 0x0011 true 31 1023).req.fExp.toNat ≤ Format.half.EMAX ∧
    (fieldState 0x0011 true 31 1023).req.fMant.toNat < 2 ^ Format.half.M := by decide
/-- Both zeros, for the last clause of `IntegerBitAgreesWithExactValue`. -/
theorem witness_IntegerBitAgreesWithExactValue_zero : (operandState 0x0012 2 0x8000).req.aLen.toNat = Format.half.NB ∧
    classify .half ((operandState 0x0012 2 0x8000).pattern .half) = .zero ∧
    classify .half ((operandState 0x0012 2 0).pattern .half) = .zero := by decide

/-- Also for `WideningIsExact`, whose two states may be one, and for the cases of `RoundTripThroughWiderFormat`: a NaN
operand and the largest finite one. -/
theorem witness_WideningByClass : Format.quarter.W < Format.half.W ∧
    (operandState 0x0083 1 0x7b).req.aLen.toNat = Format.quarter.NB ∧
    (classify .quarter ((operandState 0x0083 1 0x7b).pattern .quarter)).isNaN = true ∧
    (operandState 0x0083 1 0x77).req.aLen.toNat = Format.quarter.NB ∧
    (classify .quarter ((operandState 0x0083 1 0x77).pattern .quarter)).isNaN = false := by decide

/-- A two-byte operand of `CVT.16.8`. -/
def narrowing (v : Nat) : State := operandState 0x0013 2 v

/-- What every narrowing below meets beside its operand's class or value. -/
theorem witness_NarrowingByClass (v : Nat) :
    Format.quarter.W < Format.half.W ∧ (narrowing v).req.aLen.toNat = Format.half.NB := ⟨by decide, rfl⟩
/-- An operand of each class, and equal, greater and smaller widths of the destination. -/
theorem witness_ResultClassByOperandClass :
    (narrowing 0).req.aLen.toNat = Format.half.NB ∧ Format.half.W < Format.single.W ∧ Format.quarter.W < Format.half.W ∧
    classify .half ((narrowing 0x8000).pattern .half) = .zero ∧
    classify .half ((narrowing 0x03ff).pattern .half) = .subnormal ∧
    classify .half ((narrowing 0x0400).pattern .half) = .normal ∧
    classify .half ((narrowing 0xfc00).pattern .half) = .infinite ∧
    classify .half ((narrowing 0x7e00).pattern .half) = .qnan ∧
    classify .half ((narrowing 0x7c01).pattern .half) = .snan := by decide
/-- A Signaling and a Quiet NaN, of either sign. -/
theorem witness_NarrowedNaNsAreCanonical : Format.quarter.W < Format.half.W ∧
    (narrowing 0xfdff).req.aLen.toNat = Format.half.NB ∧
    (classify .half ((narrowing 0xfdff).pattern .half)).isNaN = true ∧
    (classify .half ((narrowing 0x7e00).pattern .half)).isNaN = true := by decide
/-- Normals at the ends of the four ranges of `CVT.16.8`: 23, 22 and 9, 8 and 6, 5 (42_convert.md R133). -/
theorem witness_NarrowingOutcomeByExponentRange :
    Format.quarter.W < Format.half.W ∧ (narrowing 0x5c00).req.aLen.toNat = Format.half.NB ∧
    (classify .half ((narrowing 0x5c00).pattern .half) = .normal ∧ expf .half ((narrowing 0x5c00).pattern .half) = 23) ∧
    (classify .half ((narrowing 0x5bff).pattern .half) = .normal ∧ expf .half ((narrowing 0x5bff).pattern .half) = 22) ∧
    (classify .half ((narrowing 0x2400).pattern .half) = .normal ∧ expf .half ((narrowing 0x2400).pattern .half) = 9) ∧
    (classify .half ((narrowing 0x23ff).pattern .half) = .normal ∧ expf .half ((narrowing 0x23ff).pattern .half) = 8) ∧
    (classify .half ((narrowing 0x1800).pattern .half) = .normal ∧ expf .half ((narrowing 0x1800).pattern .half) = 6) ∧
    (classify .half ((narrowing 0x17ff).pattern .half) = .normal ∧ expf .half ((narrowing 0x17ff).pattern .half) = 5) := by
  decide

/-- The value of a positive Half Normal with these fields. -/
theorem value_of_half {p : Pattern .half} {e m : Nat} (h : classify .half p = .normal) (he : expf .half p = e)
    (hm : mantf .half p = m) (hs : sign .half p = false) :
    value .half p = some ((1 + (m : ℚ) / 1024) * (2 : ℚ) ^ ((e : ℤ) - 15)) := by
  have hB : Format.half.B = 15 := by decide
  have hM : Format.half.M = 10 := by decide
  rw [value_of_normal h, he, hm, hs, hB, hM]
  norm_num [signFactor]
/-- 256, the smallest magnitude that overflows Quarter (95_test_vectors.md section 2.7). -/
theorem witness_NarrowingRoundsTowardZero_overflow :
    Format.quarter.W < Format.half.W ∧ (narrowing 0x5c00).req.aLen.toNat = Format.half.NB ∧
    value .half ((narrowing 0x5c00).pattern .half) = some 256 ∧ (2 : ℚ) ^ (Format.quarter.B + 1) ≤ |(256 : ℚ)| := by
  have hB : Format.quarter.B = 7 := by decide
  refine ⟨by decide, rfl, ?_, ?_⟩
  · rw [value_of_half (e := 23) (m := 0) (by decide) (by decide) (by decide) (by decide)]; norm_num
  · rw [hB]; norm_num
/-- 255.875, the largest Half below 256 (95_test_vectors.md section 2.7). -/
theorem witness_NarrowingRoundsTowardZero_in_range :
    Format.quarter.W < Format.half.W ∧ (narrowing 0x5bff).req.aLen.toNat = Format.half.NB ∧
    value .half ((narrowing 0x5bff).pattern .half) = some (2047 / 8) ∧
    |(2047 / 8 : ℚ)| < (2 : ℚ) ^ (Format.quarter.B + 1) := by
  have hB : Format.quarter.B = 7 := by decide
  refine ⟨by decide, rfl, ?_, ?_⟩
  · rw [value_of_half (e := 22) (m := 1023) (by decide) (by decide) (by decide) (by decide)]; norm_num
  · rw [hB]; norm_num
/-- 2047 × 2^−20, the largest Half below Quarter's smallest subnormal 2^−9 (95_test_vectors.md section 2.7). -/
theorem witness_NarrowingRoundsTowardZero_below_floor :
    Format.quarter.W < Format.half.W ∧ (narrowing 0x17ff).req.aLen.toNat = Format.half.NB ∧
    value .half ((narrowing 0x17ff).pattern .half) = some (2047 / 2 ^ 20) ∧
    |(2047 / 2 ^ 20 : ℚ)| < (2 : ℚ) ^ (1 - (Format.quarter.B : ℤ) - (Format.quarter.M : ℤ)) := by
  have hB : Format.quarter.B = 7 := by decide
  have hM : Format.quarter.M = 3 := by decide
  refine ⟨by decide, rfl, ?_, ?_⟩
  · rw [value_of_half (e := 5) (m := 1023) (by decide) (by decide) (by decide) (by decide)]; norm_num
  · rw [hB, hM]; norm_num
theorem witness_NegNegatesValue : (operandState 0x0014 2 0x3c00).req.aLen.toNat = Format.half.NB ∧
    value .half ((operandState 0x0014 2 0x3c00).pattern .half) = some 1 := by
  refine ⟨rfl, ?_⟩
  rw [value_of_half (e := 15) (m := 0) (by decide) (by decide) (by decide) (by decide)]; norm_num

theorem witness_StepEstablishesLegalResponse : ∃ t, step (operandState 0x0002 1 0x44) = .next t := ⟨_, rfl⟩
/-- Every kind of line that names an operation can be assembled. -/
theorem witness_AssembledLineRunsItsInstruction :
    (assemble [] (.unpack .half (.bytes [0x7c, 0x00]))).isSome ∧ (assemble [] (.classify .half (.bytes []))).isSome ∧
    (assemble [] (.cvt .half .quarter (.bytes [0x7c, 0x00]))).isSome ∧ (assemble [] (.neg .half (.bytes []))).isSome ∧
    (assemble [] (.pack .half (.number 1) (.number 31) (.number 1023))).isSome := by decide

end Sys2Proof.Machine.Test
end

section
/-! The frame of every instruction (10_state.md R30): which response ports an operation leaves at 0. -/

namespace Sys2Proof.Machine

/-- What the response `r` of operation `o` keeps at 0 (10_state.md R30): the clauses of `Obligations.UndrivenPortsAreZero`
that speak of the response ports alone. -/
structure ResponsePorts.FramedBy (o : Op) (r : ResponsePorts) : Prop where
  answered : r.rspValid = true
  unpackPorts : (¬ ∃ f, o = .unpack f) → r.oExp = 0 ∧ r.oMant = 0
  classPorts : (¬ ∃ f, o = .classify f) → r.oCls = 0 ∧ r.oFin = false ∧ r.oInt = false
  signPort : (¬ ∃ f, o = .unpack f ∨ o = .classify f) → r.oSign = false
  bareError : r.err ≠ 0 → r = errorResponse r.err

/-- The model's error response and the one the statements write out are the same. -/
theorem raise_eq_errorResponse (e : ErrorCode) : raise e = errorResponse e.code := rfl

/-- What holds of `LengthError` and of every result holds of the response of an operation on an operand. -/
theorem responseOf_onOperand {P : ResponsePorts → Prop} {f : Format} {k : Pattern f → ResponsePorts}
    (herror : P (raise .lengthError)) (hresult : ∀ p, P (k p)) (q : RequestPorts) :
    P (responseOf (onOperand f q k)) := by
  by_cases h : q.aLen.toNat = f.NB
  · rw [onOperand_of_length k h, responseOf_ok]
    exact hresult _
  · rw [onOperand_of_wrong_length k h, responseOf_error]
    exact herror

/-- What holds of `FieldError` and of every result buffer of format `f` holds of the response of `PACK`. -/
theorem responseOf_pack {P : ResponsePorts → Prop} {f : Format} (herror : P (raise .fieldError))
    (hresult : ∀ p : Pattern f, P (ResponsePorts.accepted.withResult f p)) (q : RequestPorts) :
    P (responseOf (pack f q)) := by
  by_cases h : f.EMAX < q.fExp.toNat ∨ 2 ^ f.M ≤ q.fMant.toNat
  · rw [pack_of_overflow h, responseOf_error]
    exact herror
  · obtain ⟨he, hm⟩ := not_or.mp h
    rw [pack_of_range (Nat.le_of_not_lt he) (Nat.lt_of_not_le hm), responseOf_ok]
    exact hresult _

theorem framedBy_raise (o : Op) (e : ErrorCode) : (raise e).FramedBy o where
  answered := raise_rspValid e
  unpackPorts _ := ⟨rfl, rfl⟩
  classPorts _ := ⟨rfl, rfl, rfl⟩
  signPort _ := rfl
  bareError _ := raise_eq_errorResponse e

/-- A response that drives the result buffer alone, as those of `PACK`, `CVT` and `NEG` do, is framed for any operation. -/
theorem framedBy_withResult (o : Op) (f : Format) (p : Pattern f) :
    (ResponsePorts.accepted.withResult f p).FramedBy o where
  answered := rfl
  unpackPorts _ := ⟨rfl, rfl⟩
  classPorts _ := ⟨rfl, rfl, rfl⟩
  signPort _ := rfl
  bareError h := absurd rfl h

/-- `UNPACK` may drive `o_sign`, `o_exp` and `o_mant` beside the result buffer, whatever their values. -/
theorem framedBy_unpack (f : Format) (p : Pattern f) (s : Bool) (e : ExpPort) (m : MantPort) :
    ResponsePorts.FramedBy (.unpack f)
      { ResponsePorts.accepted.withResult f p with oSign := s, oExp := e, oMant := m } where
  answered := rfl
  unpackPorts h := absurd ⟨f, rfl⟩ h
  classPorts _ := ⟨rfl, rfl, rfl⟩
  signPort h := absurd ⟨f, .inl rfl⟩ h
  bareError h := absurd rfl h

/-- `CLASS` may drive `o_cls`, `o_fin`, `o_int` and `o_sign` beside the result buffer, whatever their values. -/
theorem framedBy_classify (f : Format) (p : Pattern f) (c : BitVec 3) (fin int s : Bool) :
    ResponsePorts.FramedBy (.classify f)
      { ResponsePorts.accepted.withResult f p with oCls := c, oFin := fin, oInt := int, oSign := s } where
  answered := rfl
  unpackPorts _ := ⟨rfl, rfl⟩
  classPorts h := absurd ⟨f, rfl⟩ h
  signPort h := absurd ⟨f, .inr rfl⟩ h
  bareError h := absurd rfl h

/-- Every operation's response, result or error, keeps the operation's frame. -/
theorem framedBy_perform (o : Op) (q : RequestPorts) : (responseOf (perform o q)).FramedBy o := by
  cases o with
  | unpack f => exact responseOf_onOperand (framedBy_raise _ _) (fun p => framedBy_unpack f p _ _ _) q
  | pack f => exact responseOf_pack (framedBy_raise _ _) (framedBy_withResult _ f) q
  | classify f => exact responseOf_onOperand (framedBy_raise _ _) (fun p => framedBy_classify f p _ _ _ _) q
  | cvt sf df => exact responseOf_onOperand (framedBy_raise _ _) (fun _ => framedBy_withResult _ df _) q
  | neg f => exact responseOf_onOperand (framedBy_raise _ _) (fun _ => framedBy_withResult _ f _) q

/-- An instruction that answers a next state has driven its operation's response and changed nothing else. -/
theorem eq_drive_of_exec {o : Op} {s t : State} (h : exec o.instr s = .next t) :
    t = s.drive (responseOf (perform o s.req)) := by
  rw [exec_instr, answer_eq] at h
  exact (Host.Outcome.next.inj h).symm

/-- Settles O15: an instruction drives its operation's response alone, and that response is framed. -/
theorem undrivenPortsAreZero : Obligations.UndrivenPortsAreZero := by
  unfold Obligations.UndrivenPortsAreZero
  intro o s t h
  obtain rfl := eq_drive_of_exec h
  obtain ⟨hvalid, hunpack, hclass, hsign, herr⟩ := framedBy_perform o s.req
  exact ⟨State.drive_req .., hvalid, hunpack, hclass, hsign, herr⟩

end Sys2Proof.Machine
end

section
/-! Byte order of the operand and result buffers (20_memory.md R41): the number a list of bytes is, the bytes of a bus that
holds it, and `UNPACK`'s echo of it. -/

namespace Sys2Proof.Machine

theorem bigEndian_concat (bs : List Byte) (b : Byte) : bigEndian (bs ++ [b]) = 256 * bigEndian bs + b.toNat := by
  simp [bigEndian]

/-- `n` bytes are a number of `8 * n` bits. -/
theorem bigEndian_lt (bs : List Byte) : bigEndian bs < 2 ^ (8 * bs.length) := by
  induction bs using List.reverseRecOn with
  | nil => simp [bigEndian]
  | append_singleton bs b ih =>
    have hpow : 2 ^ (8 * (bs ++ [b]).length) = 256 * 2 ^ (8 * bs.length) := by
      rw [List.length_append, List.length_singleton]; ring
    have hb : b.toNat < 256 := b.isLt
    rw [bigEndian_concat, hpow]
    omega

/-- Byte `i` is what stays of the number when the bytes after it are shifted out and the bytes before it cut off. -/
theorem bigEndian_byte {bs : List Byte} {i : Nat} {b : Byte} (h : bs[i]? = some b) :
    bigEndian bs >>> (8 * (bs.length - i - 1)) % 2 ^ 8 = b.toNat := by
  induction bs using List.reverseRecOn with
  | nil => simp at h
  | append_singleton bs c ih =>
    have hc : c.toNat < 256 := c.isLt
    obtain ⟨hi, -⟩ := List.getElem?_eq_some_iff.mp h
    rw [List.length_append, List.length_singleton] at hi ⊢
    rw [bigEndian_concat]
    obtain hlt | rfl : i < bs.length ∨ i = bs.length := by omega
    · rw [List.getElem?_append_left hlt] at h
      have hshift : 8 * (bs.length + 1 - i - 1) = 8 + 8 * (bs.length - i - 1) := by omega
      have hdrop : (256 * bigEndian bs + c.toNat) >>> 8 = bigEndian bs := by
        rw [Nat.shiftRight_eq_div_pow]; omega
      rw [hshift, Nat.shiftRight_add, hdrop, ih h]
    · obtain rfl : c = b := by simpa using h
      have hshift : 8 * (bs.length + 1 - bs.length - 1) = 0 := by omega
      rw [hshift, Nat.shiftRight_zero]
      omega

/-- The bits of a bus or pattern that holds the bytes `bs` as a number, where byte `i` stands, are byte `i`. -/
theorem extractLsb'_of_toNat_eq_bigEndian {w : Nat} {x : BitVec w} {bs : List Byte} (hx : x.toNat = bigEndian bs)
    {i : Nat} {b : Byte} (h : bs[i]? = some b) : x.extractLsb' (8 * (bs.length - i - 1)) 8 = b := by
  apply BitVec.eq_of_toNat_eq
  rw [BitVec.extractLsb'_toNat, hx, bigEndian_byte h]

/-- The bytes of a buffer of format `f` are a number that fits its pattern. -/
theorem bigEndian_lt_two_pow_W {f : Format} {bs : List Byte} (h : bs.length = f.NB) : bigEndian bs < 2 ^ f.W := by
  rw [← f.eight_mul_NB, ← h]
  exact bigEndian_lt bs

theorem withBuffer_aLen_toNat {f : Format} {bs : List Byte} (h : bs.length = f.NB) (q : RequestPorts) :
    (q.withBuffer bs).aLen.toNat = f.NB := by
  rw [RequestPorts.withBuffer, h, Format.toNat_ofNat_NB]

/-- The pattern of a presented buffer is the number its bytes are. -/
theorem withBuffer_pattern_toNat {f : Format} {bs : List Byte} (h : bs.length = f.NB) (q : RequestPorts) :
    ((q.withBuffer bs).aData.setWidth f.W).toNat = bigEndian bs := by
  have hW := bigEndian_lt_two_pow_W h
  have hbus : bigEndian bs < 2 ^ 256 := hW.trans_le (Nat.pow_le_pow_right two_pos f.W_le)
  rw [RequestPorts.withBuffer, BitVec.toNat_setWidth, BitVec.toNat_ofNat, Nat.mod_eq_of_lt hbus, Nat.mod_eq_of_lt hW]

/-- A pattern on the result bus is the same number. -/
theorem withResult_rData_toNat (r : ResponsePorts) (f : Format) (p : Pattern f) :
    (r.withResult f p).rData.toNat = p.toNat := by
  rw [withResult_rData, BitVec.toNat_setWidth_of_le f.W_le]

/-- The host reads back the pattern that a result buffer was given. -/
theorem withResult_rData_setWidth (r : ResponsePorts) (f : Format) (p : Pattern f) :
    (r.withResult f p).rData.setWidth f.W = p := by
  apply BitVec.eq_of_toNat_eq
  rw [BitVec.toNat_setWidth, withResult_rData_toNat, Nat.mod_eq_of_lt p.isLt]

/-- The sign is the top bit of the first eight bits. -/
theorem sign_eq_getLsbD_firstByte (f : Format) (p : Pattern f) : sign f p = (p.extractLsb' (f.W - 8) 8).getLsbD 7 := by
  have hW : f.W - 8 + 7 = f.W - 1 := by cases f <;> rfl
  simp [sign, hW]

/-- A result buffer with the length and the number of the bytes `bs` shows them in order. -/
theorem resultByte_of_toNat_eq_bigEndian {r : ResponsePorts} {bs : List Byte} (hlen : r.rLen.toNat = bs.length)
    (hdata : r.rData.toNat = bigEndian bs) {i : Nat} {b : Byte} (h : bs[i]? = some b) : r.resultByte i = b := by
  rw [ResponsePorts.resultByte, bufferByte, hlen]
  exact extractLsb'_of_toNat_eq_bigEndian hdata h

/-- `UNPACK` of an operand of the right length. -/
theorem unpack_of_length {f : Format} {q : RequestPorts} (h : q.aLen.toNat = f.NB) :
    unpack f q = .ok
      { ResponsePorts.accepted.withResult f (q.aData.setWidth f.W) with
        oSign := sign f (q.aData.setWidth f.W)
        oExp := (BitVec.ofNat f.E (expf f (q.aData.setWidth f.W))).setWidth 19
        oMant := (BitVec.ofNat f.M (mantf f (q.aData.setWidth f.W))).setWidth 236 } := by
  rw [unpack, onOperand_of_length _ h]

/-- Settles O16: `UNPACK` echoes the pattern of its operand, and that pattern is the number the bytes are. -/
theorem buffersAreBigEndian : Obligations.BuffersAreBigEndian := by
  unfold Obligations.BuffersAreBigEndian
  intro f bs s hlen
  have hunpack := unpack_of_length (withBuffer_aLen_toNat hlen s.req)
  have hp := withBuffer_pattern_toNat hlen s.req
  set p : Pattern f := (s.req.withBuffer bs).aData.setWidth f.W
  have hrLen : (ResponsePorts.accepted.withResult f p).rLen.toNat = bs.length := by
    rw [withResult_rLen, f.toNat_ofNat_NB, hlen]
  have hrData : (ResponsePorts.accepted.withResult f p).rData.toNat = bigEndian bs := by
    rw [withResult_rData_toNat, hp]
  have hbyte : ∀ i b, bs[i]? = some b → p.extractLsb' (f.W - 8 - 8 * i) 8 = b := by
    intro i b hb
    have hpos : f.W - 8 - 8 * i = 8 * (bs.length - i - 1) := by rw [hlen, ← f.eight_mul_NB]; omega
    rw [hpos]
    exact extractLsb'_of_toNat_eq_bigEndian hp hb
  refine ⟨_, by rw [exec_instr, answer_eq, State.present_req, perform, hunpack, responseOf_ok], hrLen, hrData, ?_, ?_⟩
  · intro i b hb
    refine ⟨resultByte_of_toNat_eq_bigEndian hrLen hrData hb, ?_⟩
    rw [State.result, State.drive_rsp, withResult_rData_setWidth]
    exact hbyte i b hb
  · intro b hb
    rw [State.drive_rsp, sign_eq_getLsbD_firstByte]
    exact congrArg (·.getLsbD 7) (hbyte 0 b hb)

end Sys2Proof.Machine
end

section
/-! The illegal command words (30_encoding.md R62): the decoder rejects exactly the commands that are not well formed, and
60 words are well formed. -/

namespace Sys2Proof

theorem Command.ofWord_zero_toNat (w : CommandWord) : (Command.ofWord w).zero.toNat = w.toNat / 1024 := by
  have hw : w.toNat < 65536 := w.isLt
  simp only [Command.ofWord, BitVec.extractLsb'_toNat, Nat.shiftRight_eq_div_pow]
  omega

theorem Command.ofWord_df_toNat (w : CommandWord) : (Command.ofWord w).df.toNat = w.toNat / 128 % 8 := by
  simp [Command.ofWord, Nat.shiftRight_eq_div_pow]

theorem Command.ofWord_sf_toNat (w : CommandWord) : (Command.ofWord w).sf.toNat = w.toNat / 16 % 8 := by
  simp [Command.ofWord, Nat.shiftRight_eq_div_pow]

theorem Command.ofWord_op_toNat (w : CommandWord) : (Command.ofWord w).op.toNat = w.toNat % 16 := by
  simp [Command.ofWord]

/-- The codes 0 to 5 name a format (30_encoding.md R57). -/
theorem Format.ofCode_isSome_iff (c : BitVec 3) : (Format.ofCode c).isSome ↔ c.toNat ≤ 5 := by
  revert c; decide

/-- The codes 0 to 4 select an operation (30_encoding.md R56). -/
theorem Op.exists_ofCode_of_le {op : Nat} (h : op ≤ 4) (sf df : Format) : ∃ o, Op.ofCode op sf df = some o := by
  interval_cases op <;> exact ⟨_, rfl⟩

/-- `legal` of 30_encoding.md R59 as a proposition. -/
theorem Command.wellFormed_iff (c : Command) : c.wellFormed = true ↔
    c.zero.toNat = 0 ∧ c.op.toNat ≤ 4 ∧ c.sf.toNat ≤ 5 ∧
      (c.op.toNat = 3 ∧ c.df.toNat ≤ 5 ∨ c.op.toNat ≠ 3 ∧ c.df.toNat = 0) := by
  by_cases h : c.op.toNat = 3 <;> simp [Command.wellFormed, h, and_assoc]

/-- The decoder's test for an unused destination, on the numbers of the fields. -/
theorem Command.destination_used_iff (c : Command) :
    ¬ (c.op ≠ 3 ∧ c.df ≠ 0) ↔ c.op.toNat = 3 ∨ c.df.toNat = 0 := by
  rw [not_and_or, not_not, not_not, ← BitVec.toNat_inj, ← BitVec.toNat_inj]
  rfl

/-- A command that passes every check of the decoder is an operation. -/
theorem Command.exists_decode_of_wellFormed {c : Command} (h : c.wellFormed = true) : ∃ o, c.decode = .ok o := by
  obtain ⟨hzero, hop, hsf, hdf⟩ := c.wellFormed_iff.mp h
  obtain ⟨sf, hsf⟩ := Option.isSome_iff_exists.mp ((Format.ofCode_isSome_iff c.sf).mpr hsf)
  obtain ⟨df, hdf'⟩ := Option.isSome_iff_exists.mp ((Format.ofCode_isSome_iff c.df).mpr (by omega))
  obtain ⟨o, ho⟩ := Op.exists_ofCode_of_le hop sf df
  have hzero : c.zero = 0 := BitVec.eq_of_toNat_eq hzero
  have hused : ¬ (c.op ≠ 3 ∧ c.df ≠ 0) := c.destination_used_iff.mpr (by omega)
  refine ⟨o, ?_⟩
  rw [Command.decode, if_neg (not_not.mpr hzero), if_neg (by omega), hsf, hdf']
  simp only [if_neg hused, ho]

/-- A command that is an operation has passed every check of the decoder. -/
theorem Command.wellFormed_of_decode {c : Command} {o : Op} (h : c.decode = .ok o) : c.wellFormed = true := by
  unfold Command.decode at h
  split at h
  · nomatch h
  next hzero =>
  split at h
  · nomatch h
  next hop =>
  split at h
  · nomatch h
  next sf hsf =>
  split at h
  · nomatch h
  next df hdf =>
  split at h
  · nomatch h
  next hused =>
  have hzero : c.zero.toNat = 0 := congrArg BitVec.toNat (not_not.mp hzero)
  have hsf : c.sf.toNat ≤ 5 := (Format.ofCode_isSome_iff c.sf).mp (Option.isSome_of_eq_some hsf)
  have hdf : c.df.toNat ≤ 5 := (Format.ofCode_isSome_iff c.df).mp (Option.isSome_of_eq_some hdf)
  have hused := c.destination_used_iff.mp hused
  exact c.wellFormed_iff.mpr (by omega)

/-- The decoder rejects a command word exactly when its command is not well formed. -/
theorem exists_decode_error_iff (w : CommandWord) :
    (∃ e, decode w = .error e) ↔ (Command.ofWord w).wellFormed = false := by
  constructor
  · rintro ⟨e, he⟩
    rw [← Bool.not_eq_true]
    intro h
    obtain ⟨o, ho⟩ := Command.exists_decode_of_wellFormed h
    simp [decode, ho] at he
  · intro h
    cases hd : (Command.ofWord w).decode with
    | ok o => simp [Command.wellFormed_of_decode hd] at h
    | error e => exact ⟨e, by simp [decode, hd]⟩

theorem decode_toOption_eq_none_iff (w : CommandWord) :
    (decode w).toOption = none ↔ ∃ e, decode w = .error e := by
  cases decode w <;> simp [Except.toOption]

/-- The fields of a well-formed command word, as parts of its number (30_encoding.md R55, R59). -/
theorem wellFormed_ofWord_iff (w : CommandWord) : (Command.ofWord w).wellFormed = true ↔
    w.toNat / 1024 = 0 ∧ w.toNat % 16 ≤ 4 ∧ w.toNat / 16 % 8 ≤ 5 ∧
      (w.toNat % 16 = 3 ∧ w.toNat / 128 % 8 ≤ 5 ∨ w.toNat % 16 ≠ 3 ∧ w.toNat / 128 % 8 = 0) := by
  rw [Command.wellFormed_iff, Command.ofWord_zero_toNat, Command.ofWord_op_toNat, Command.ofWord_sf_toNat,
    Command.ofWord_df_toNat]

/-- The words of the four operations with one format, and those of `CVT` (30_encoding.md R55 to R57). -/
def legalWords : Finset CommandWord :=
  (Finset.range 6 ×ˢ {0, 1, 2, 4}).image (fun (sf, op) => BitVec.ofNat 16 (16 * sf + op)) ∪
    (Finset.range 6 ×ˢ Finset.range 6).image (fun (df, sf) => BitVec.ofNat 16 (128 * df + 16 * sf + 3))

/-- A word is one of them exactly when its command passes the model's own check. -/
theorem mem_legalWords_iff (w : CommandWord) : w ∈ legalWords ↔ (Command.ofWord w).wellFormed = true := by
  have hw : w.toNat < 65536 := w.isLt
  rw [wellFormed_ofWord_iff]
  simp only [legalWords, Finset.mem_union, Finset.mem_image, Finset.mem_product, Finset.mem_range, Finset.mem_insert,
    Finset.mem_singleton, Prod.exists, ← BitVec.toNat_inj, BitVec.toNat_ofNat]
  constructor
  · rintro (⟨sf, op, ⟨hsf, hop⟩, hn⟩ | ⟨df, sf, ⟨hdf, hsf⟩, hn⟩) <;> omega
  · rintro ⟨hzero, hop, hsf, ⟨hcvt, hdf⟩ | ⟨hcvt, hdf⟩⟩
    · exact .inr ⟨w.toNat / 128 % 8, w.toNat / 16 % 8, by omega, by omega⟩
    · exact .inl ⟨w.toNat / 16 % 8, w.toNat % 16, by omega, by omega⟩

theorem card_legalWords : legalWords.card = 60 := by decide

/-- All words but the 60 legal ones are illegal. -/
theorem card_illegalWords :
    (Finset.univ.filter fun w : CommandWord => (decode w).toOption = none).card = 65476 := by
  have hcompl : (Finset.univ.filter fun w : CommandWord => (decode w).toOption = none) = legalWordsᶜ := by
    ext w
    rw [Finset.mem_filter_univ, decode_toOption_eq_none_iff, exists_decode_error_iff, Finset.mem_compl,
      mem_legalWords_iff, Bool.not_eq_true]
  rw [hcompl, Finset.card_compl, card_legalWords, ← FinEnum.card_eq_fintypeCard, FinEnum.card_bitVec]
  rfl

end Sys2Proof

namespace Sys2Proof.Machine

/-- Settles O4: the clauses of R62 are the negation of `legal`, and the error response is that of `step_of_illegal`. -/
theorem reservedWordsAreIllegalCommands : Obligations.ReservedWordsAreIllegalCommands := by
  unfold Obligations.ReservedWordsAreIllegalCommands
  refine ⟨fun w => ?_, fun s e hvalid hillegal => ?_, card_illegalWords⟩
  · rw [exists_decode_error_iff, ← Bool.not_eq_true, wellFormed_ofWord_iff]
    omega
  · rw [step_of_illegal hvalid hillegal, raise_eq_errorResponse]
    rfl

end Sys2Proof.Machine
end

section
/-! Pack and unpack as functions (40_codec.md R86 to R88): a pattern's number is (s·2^E + e)·2^M + m, which pack builds and
unpack divides up again. -/

namespace Sys2Proof

/-- The sign is what is left of the number when both fields are shifted out. -/
theorem sign_toNat (f : Format) (p : Pattern f) : (sign f p).toNat = p.toNat / 2 ^ f.M / 2 ^ f.E := by
  have hW : f.M + f.E = f.W - 1 := by rw [f.W_eq]; omega
  have hpos : 1 ≤ f.W := by rw [f.W_eq]; omega
  have hlt : p.toNat / 2 ^ (f.W - 1) < 2 := by
    apply Nat.div_lt_of_lt_mul
    rw [← pow_succ, Nat.sub_add_cancel hpos]
    exact p.isLt
  rw [Nat.div_div_eq_div_mul, ← pow_add, hW, sign_eq, Nat.mod_eq_of_lt hlt]
  obtain h | h := Nat.le_one_iff_eq_zero_or_eq_one.mp (Nat.le_of_lt_succ hlt)
  · rw [h]; rfl
  · rw [h]; rfl

/-- A pattern's number from its three fields. -/
theorem toNat_eq_fields (f : Format) (p : Pattern f) :
    p.toNat = ((sign f p).toNat * 2 ^ f.E + expf f p) * 2 ^ f.M + mantf f p := by
  rw [sign_toNat, expf_eq, mantf_eq, Nat.div_add_mod', Nat.div_add_mod']

/-- `mk_toNat` with the powers nested, as the divisions that read the fields meet them. -/
theorem mk_toNat_nested (f : Format) (s : Bool) {e m : Nat} (he : e ≤ f.EMAX) (hm : m < 2 ^ f.M) :
    (mk f s e m).toNat = (s.toNat * 2 ^ f.E + e) * 2 ^ f.M + m := by
  have hW : f.W - 1 = f.E + f.M := by rw [f.W_eq]; omega
  rw [mk_toNat f s he hm, hW]
  ring

/-- Pack after unpack (40_codec.md R87). -/
theorem mk_fields (f : Format) (p : Pattern f) : mk f (sign f p) (expf f p) (mantf f p) = p := by
  apply BitVec.eq_of_toNat_eq
  rw [mk_toNat_nested f _ (expf_le f p) (mantf_lt f p), ← toNat_eq_fields]

/-- Unpack after pack (40_codec.md R88): dividing by 2^M parts the mantissa field from the rest, and the rest by 2^E parts
the exponent field from the sign. -/
theorem fields_mk (f : Format) (s : Bool) {e m : Nat} (he : e ≤ f.EMAX) (hm : m < 2 ^ f.M) :
    sign f (mk f s e m) = s ∧ expf f (mk f s e m) = e ∧ mantf f (mk f s e m) = m := by
  have he' : e < 2 ^ f.E := by rw [f.two_pow_E]; omega
  have hn := mk_toNat_nested f s he hm
  obtain ⟨hdivM, hmodM⟩ : (mk f s e m).toNat / 2 ^ f.M = s.toNat * 2 ^ f.E + e ∧ (mk f s e m).toNat % 2 ^ f.M = m :=
    (Nat.div_mod_unique (by positivity)).2 ⟨by rw [hn]; ring, hm⟩
  obtain ⟨hdivE, hmodE⟩ : (s.toNat * 2 ^ f.E + e) / 2 ^ f.E = s.toNat ∧ (s.toNat * 2 ^ f.E + e) % 2 ^ f.E = e :=
    (Nat.div_mod_unique (by positivity)).2 ⟨by ring, he'⟩
  refine ⟨?_, ?_, ?_⟩
  · rw [← Bool.ofNat_toNat (sign f _), sign_toNat, hdivM, hdivE, Bool.ofNat_toNat]
  · rw [expf_eq, hdivM, hmodE]
  · rw [mantf_eq, hmodM]

/-- Settles O20: the three equations are `fields_mk`; every pattern is `mk` of its own fields, and by the equations of no
others. -/
theorem unpackAfterPackIsIdentity : Obligations.UnpackAfterPackIsIdentity := by
  unfold Obligations.UnpackAfterPackIsIdentity
  refine ⟨fun f s e m he hm => fields_mk f s he hm, fun f p => ?_⟩
  refine ⟨(sign f p, expf f p, mantf f p), ⟨⟨expf_le f p, mantf_lt f p⟩, mk_fields f p⟩, ?_⟩
  rintro ⟨s, e, m⟩ ⟨⟨he, hm⟩, rfl⟩
  obtain ⟨hsign, hexp, hmant⟩ := fields_mk f s he hm
  rw [hsign, hexp, hmant]

end Sys2Proof
end

section
/-! `UNPACK` and `PACK` on the ports (40_codec.md R84, R85, R87): the whole response of `UNPACK`, and the script that packs
what it returns. -/

namespace Sys2Proof.Machine

/-- The model's result response and the one the statements write out are the same. -/
theorem accepted_withResult (f : Format) (p : Pattern f) :
    ResponsePorts.accepted.withResult f p = resultResponse f p.toNat := by
  rw [resultResponse, BitVec.ofNat_toNat]
  rfl

/-- The exponent field keeps its number on `o_exp`. -/
theorem expPort_eq (f : Format) (p : Pattern f) :
    (BitVec.ofNat f.E (expf f p)).setWidth 19 = BitVec.ofNat 19 (expf f p) :=
  BitVec.setWidth_ofNat_of_le_of_lt f.E_le (expf_lt f p)

/-- The mantissa field keeps its number on `o_mant`. -/
theorem mantPort_eq (f : Format) (p : Pattern f) :
    (BitVec.ofNat f.M (mantf f p)).setWidth 236 = BitVec.ofNat 236 (mantf f p) :=
  BitVec.setWidth_ofNat_of_le_of_lt f.M_le (mantf_lt f p)

/-- Settles O17: the response `unpack_of_length` names, its echo and its fields read as plain numbers. -/
theorem unpackReturnsStoredFields : Obligations.UnpackReturnsStoredFields := by
  unfold Obligations.UnpackReturnsStoredFields
  intro f s hlen
  have hoperand : (s.req.aData.setWidth f.W).toNat = Raw.operand f s.req.aData := BitVec.toNat_setWidth ..
  rw [exec_instr, answer_eq, perform, unpack_of_length hlen, responseOf_ok, accepted_withResult, expPort_eq, mantPort_eq,
    sign_eq, expf_eq, mantf_eq, hoperand]
  rfl

/-- Every instruction's command word decodes to it. -/
theorem decode_encode (i : Instr) : decode (encode i) = .ok i := by cases i <;> rfl

/-- The block's response to a request with an operation's command word. -/
theorem respond_of_encode {o : Op} {q : RequestPorts} (hvalid : q.reqValid = true) (hcmd : q.cmd = encode o.instr) :
    respond q = responseOf (perform o q) := by
  have hdecode : decode q.cmd = .ok o.instr := by rw [hcmd, decode_encode]
  rw [respond, step_of_legal (s := State.reset.present q) hvalid hdecode, Op.op_instr]
  rfl

/-- The host can write an `UNPACK` line with an operand buffer of the format's length. -/
theorem assemble_unpack_of_length {f : Format} {bs : List Byte} (h : bs.length = f.NB) (env : Collected) :
    assemble env (.unpack f (.bytes bs)) = some ((RequestPorts.command (encode (Op.unpack f).instr)).withBuffer bs) := by
  have hle : bs.length ≤ 63 := by have := f.NB_lt; omega
  rw [assemble, BufferArg.load, if_pos hle]

/-- The host can copy the fields of any collected response onto the pack ports. -/
theorem assemble_pack_of_lookup {env : Collected} {k : Nat} {r : ResponsePorts} (h : env.lookup k = some r)
    (f : Format) : assemble env (.pack f (.signOf k) (.expOf k) (.mantOf k)) =
      some { RequestPorts.command (encode (Op.pack f).instr) with fSign := r.oSign, fExp := r.oExp, fMant := r.oMant } := by
  have hfit : r.oSign.toNat < 2 ∧ r.oExp.toNat < 2 ^ 19 ∧ r.oMant.toNat < 2 ^ 236 :=
    ⟨Bool.toNat_lt _, r.oExp.isLt, r.oMant.isLt⟩
  simp only [assemble, NumberArg.eval, h, Option.map_some, RequestPorts.withFields, if_pos hfit, Bool.toNat_beq_one,
    BitVec.ofNat_toNat, BitVec.setWidth_eq]

/-- `PACK` of the fields of a pattern, as `UNPACK` drives them, gives the pattern. -/
theorem pack_of_fields {f : Format} {p : Pattern f} {q : RequestPorts} (hs : q.fSign = sign f p)
    (he : q.fExp = BitVec.ofNat 19 (expf f p)) (hm : q.fMant = BitVec.ofNat 236 (mantf f p)) :
    pack f q = .ok (ResponsePorts.accepted.withResult f p) := by
  have hexp : q.fExp.toNat = expf f p := by
    rw [he, ← expPort_eq, BitVec.toNat_setWidth_of_le f.E_le, BitVec.toNat_ofNat, Nat.mod_eq_of_lt (expf_lt f p)]
  have hmant : q.fMant.toNat = mantf f p := by
    rw [hm, ← mantPort_eq, BitVec.toNat_setWidth_of_le f.M_le, BitVec.toNat_ofNat, Nat.mod_eq_of_lt (mantf_lt f p)]
  rw [pack_of_range (by rw [hexp]; exact expf_le f p) (by rw [hmant]; exact mantf_lt f p), hs, hexp, hmant, mk_fields]

/-- A script whose first line can be written goes on with that line's response collected. -/
theorem runScript_cons {env : Collected} {line : AsmRequest} {q : RequestPorts} (h : assemble env line = some q) (k : Nat)
    (rest : List (Nat × AsmRequest)) : runScript ((k, line) :: rest) env = runScript rest ((k, respond q) :: env) := by
  simp only [runScript, h]

/-- Settles O19: `mk_fields` is the identity, and the script's second line packs the fields its first line returned. -/
theorem packAfterUnpackIsIdentity : Obligations.PackAfterUnpackIsIdentity := by
  unfold Obligations.PackAfterUnpackIsIdentity
  refine ⟨mk_fields, fun f bs hlen => ?_⟩
  set q := (RequestPorts.command (encode (Op.unpack f).instr)).withBuffer bs with hq
  set p : Pattern f := q.aData.setWidth f.W
  have hfirst : respond q = { ResponsePorts.accepted.withResult f p with
      oSign := sign f p
      oExp := BitVec.ofNat 19 (expf f p)
      oMant := BitVec.ofNat 236 (mantf f p) } := by
    rw [respond_of_encode (o := .unpack f) rfl rfl, perform, unpack_of_length (withBuffer_aLen_toNat hlen _), responseOf_ok,
      expPort_eq, mantPort_eq]
  have hsecond : respond { RequestPorts.command (encode (Op.pack f).instr) with
      fSign := (respond q).oSign, fExp := (respond q).oExp, fMant := (respond q).oMant } =
      ResponsePorts.accepted.withResult f p := by
    rw [respond_of_encode (o := .pack f) rfl rfl, perform, hfirst, pack_of_fields rfl rfl rfl, responseOf_ok]
  have hrun : runScript [(1, .unpack f (.bytes bs)), (2, .pack f (.signOf 1) (.expOf 1) (.mantOf 1))] [] =
      some [(2, ResponsePorts.accepted.withResult f p), (1, respond q)] := by
    rw [runScript_cons (assemble_unpack_of_length hlen []), ← hq, runScript_cons (assemble_pack_of_lookup rfl f), hsecond,
      runScript]
  refine ⟨_, _, hrun, rfl, ?_, ?_⟩
  · rw [withResult_rLen, f.toNat_ofNat_NB]
  · rw [withResult_rData_toNat, withBuffer_pattern_toNat hlen]

end Sys2Proof.Machine
end

section
/-! The integer test (41_classify.md R104, R105): a finite value is ± n · 2^k with n a natural number, which is an integer
exactly when n is divisible by 2^(−k). The bit-level test asks the same of the mantissa field. -/

namespace Sys2Proof

theorem Format.B_pos (f : Format) : 0 < f.B := by cases f <;> decide

/-- A natural number scaled by a power of two is an integer exactly when it has the factors of two that the scale divides
out; a scale of 1 or more divides out none. -/
theorem exists_int_eq_mul_zpow_iff (n : ℕ) (k : ℤ) : (∃ z : ℤ, (n : ℚ) * 2 ^ k = z) ↔ 2 ^ (-k).toNat ∣ n := by
  obtain ⟨j, rfl | rfl⟩ := k.eq_nat_or_neg
  · have hj : (-(j : ℤ)).toNat = 0 := by omega
    rw [hj, pow_zero]
    exact iff_of_true ⟨n * 2 ^ j, by push_cast; rw [zpow_natCast]⟩ (one_dvd n)
  · have hpos : (2 : ℚ) ^ j ≠ 0 := by positivity
    rw [neg_neg, Int.toNat_natCast, zpow_neg, zpow_natCast, ← div_eq_mul_inv]
    constructor
    · rintro ⟨z, hz⟩
      rw [div_eq_iff hpos, mul_comm] at hz
      exact Int.natCast_dvd_natCast.1 ⟨z, by exact_mod_cast hz⟩
    · rintro ⟨c, rfl⟩
      exact ⟨c, by push_cast; rw [mul_div_cancel_left₀ _ hpos]⟩

/-- The sign of a number does not matter to whether it is an integer. -/
theorem exists_int_eq_signFactor_mul_iff (s : Bool) (x : ℚ) : (∃ z : ℤ, signFactor s * x = z) ↔ ∃ z : ℤ, x = z := by
  cases s with
  | false => simp [signFactor]
  | true =>
    rw [signFactor, if_pos rfl, neg_one_mul]
    constructor
    · rintro ⟨z, hz⟩
      exact ⟨-z, by rw [Int.cast_neg, ← hz, neg_neg]⟩
    · rintro ⟨z, rfl⟩
      exact ⟨-z, (Int.cast_neg z).symm⟩

/-- The value of a Subnormal with its fraction cleared: m · 2^(1 − B − M). -/
theorem subnormal_magnitude (f : Format) (m : ℕ) :
    (m : ℚ) / 2 ^ f.M * 2 ^ (1 - (f.B : ℤ)) = (m : ℚ) * 2 ^ (1 - (f.B : ℤ) - f.M) := by
  rw [zpow_sub₀ two_ne_zero _ (f.M : ℤ), zpow_natCast]
  ring

/-- The value of a Normal with its fraction cleared: (2^M + m) · 2^(x − M). -/
theorem normal_magnitude (f : Format) (m : ℕ) (x : ℤ) :
    (1 + (m : ℚ) / 2 ^ f.M) * 2 ^ x = ((2 ^ f.M + m : ℕ) : ℚ) * 2 ^ (x - f.M) := by
  rw [zpow_sub₀ two_ne_zero, zpow_natCast]
  push_cast
  field_simp

/-- The three ranges of R105: at x ≥ M nothing is divided out; at x < 0 the divisor exceeds 2^M + m; between them it
divides the implicit 1's 2^M, so only the mantissa field counts. -/
theorem normalIsInteger_iff_dvd {f : Format} (x : ℤ) {m : ℕ} (hm : m < 2 ^ f.M) :
    normalIsInteger f x m = true ↔ 2 ^ ((f.M : ℤ) - x).toNat ∣ 2 ^ f.M + m := by
  rw [normalIsInteger]
  split_ifs with hhigh hlow
  · have hk : ((f.M : ℤ) - x).toNat = 0 := by omega
    simp [hk]
  · have hk : f.M + 1 ≤ ((f.M : ℤ) - x).toNat := by omega
    have hlt : 2 ^ f.M + m < 2 ^ ((f.M : ℤ) - x).toNat :=
      calc 2 ^ f.M + m < 2 ^ (f.M + 1) := by rw [pow_succ]; omega
        _ ≤ 2 ^ ((f.M : ℤ) - x).toNat := Nat.pow_le_pow_right two_pos hk
    exact iff_of_false not_false (Nat.not_dvd_of_pos_of_lt (by positivity) hlt)
  · have hdvd : 2 ^ ((f.M : ℤ) - x).toNat ∣ 2 ^ f.M := Nat.pow_dvd_pow 2 (by omega)
    rw [beq_iff_eq, ← Nat.dvd_iff_mod_eq_zero, Nat.dvd_add_right hdvd]

/-- No Subnormal is an integer: its mantissa field is too small to be divisible by 2^(B + M − 1). -/
theorem not_exists_int_of_subnormal {f : Format} {p : Pattern f} (h : classify f p = .subnormal) :
    ¬ ∃ z : ℤ, value f p = some (z : ℚ) := by
  obtain ⟨-, hm⟩ := (classify_subnormal_iff f p).1 h
  have hk : f.M ≤ (-(1 - (f.B : ℤ) - f.M)).toNat := by have := f.B_pos; omega
  have hlt := (mantf_lt f p).trans_le (Nat.pow_le_pow_right two_pos hk)
  simp only [value_of_subnormal h, Option.some.injEq, mul_assoc]
  rw [exists_int_eq_signFactor_mul_iff, subnormal_magnitude, exists_int_eq_mul_zpow_iff]
  exact Nat.not_dvd_of_pos_of_lt (Nat.pos_of_ne_zero hm) hlt

/-- A Normal is an integer exactly when 2^M + m is divisible by 2^(M − x). -/
theorem exists_int_iff_of_normal {f : Format} {p : Pattern f} (h : classify f p = .normal) :
    (∃ z : ℤ, value f p = some (z : ℚ)) ↔ normalIsInteger f ((expf f p : ℤ) - f.B) (mantf f p) = true := by
  simp only [value_of_normal h, Option.some.injEq, mul_assoc]
  rw [exists_int_eq_signFactor_mul_iff, normal_magnitude, exists_int_eq_mul_zpow_iff, neg_sub,
    normalIsInteger_iff_dvd _ (mantf_lt f p)]

/-- The bit-level test of R105 agrees with the exact value of R104. -/
theorem isInteger_iff_exists_int (f : Format) (p : Pattern f) :
    isInteger f p = true ↔ ∃ z : ℤ, value f p = some (z : ℚ) := by
  cases h : classify f p with
  | zero => simpa [isInteger, h, value_of_zero h] using ⟨0, Int.cast_zero.symm⟩
  | subnormal => simpa [isInteger, h] using not_exists_int_of_subnormal h
  | normal => rw [exists_int_iff_of_normal h]; simp [isInteger, h]
  | infinite => simp [isInteger, value, h]
  | qnan => simp [isInteger, value, h]
  | snan => simp [isInteger, value, h]

theorem isInteger_of_zero {f : Format} {p : Pattern f} (h : classify f p = .zero) : isInteger f p = true := by
  simp [isInteger, h]

end Sys2Proof
end

section
/-! `CLASS` on the ports (41_classify.md R102, R104, R106): its whole response, and what `o_fin` and `o_int` say. -/

namespace Sys2Proof

/-- `FpClass.isFinite` names three of the six classes. -/
theorem isFinite_iff_class (f : Format) (p : Pattern f) :
    isFinite f p = true ↔ classify f p = .zero ∨ classify f p = .subnormal ∨ classify f p = .normal := by
  rw [isFinite]
  cases classify f p <;> decide

/-- The three finite classes together are the exponent fields 0 and 1 to EMAX − 1. -/
theorem isFinite_iff_expf_lt (f : Format) (p : Pattern f) : isFinite f p = true ↔ expf f p < f.EMAX := by
  have hEMAX := f.EMAX_eq
  rw [isFinite_iff_class, classify_zero_iff, classify_subnormal_iff, classify_normal_iff]
  omega

end Sys2Proof

namespace Sys2Proof.Machine

/-- `CLASS` completes on every operand of the right length. -/
theorem exec_classify_of_length {f : Format} {s : State} (h : s.req.aLen.toNat = f.NB) :
    exec (Op.classify f).instr s = .next (s.drive
      { ResponsePorts.accepted.withResult f (s.pattern f) with
        oCls := (classify f (s.pattern f)).code
        oFin := isFinite f (s.pattern f)
        oInt := isInteger f (s.pattern f)
        oSign := sign f (s.pattern f) }) := by
  rw [exec_instr, perform, classOf, onOperand_of_length _ h, answer_eq, responseOf_ok, State.pattern]

/-- Settles O24: `o_int` is the bit-level test, which agrees with the exact value. -/
theorem integerBitAgreesWithExactValue : Obligations.IntegerBitAgreesWithExactValue := by
  unfold Obligations.IntegerBitAgreesWithExactValue
  intro f s hlen
  exact ⟨_, exec_classify_of_length hlen, isInteger_iff_exists_int f _, isInteger_of_zero⟩

/-- Settles O23: `o_fin` is `isFinite`, read by class and by exponent field. -/
theorem finiteIsZeroSubnormalOrNormal : Obligations.FiniteIsZeroSubnormalOrNormal := by
  unfold Obligations.FiniteIsZeroSubnormalOrNormal
  intro f s hlen
  exact ⟨_, exec_classify_of_length hlen, isFinite_iff_class f _, isFinite_iff_expf_lt f _⟩

end Sys2Proof.Machine
end

section
/-! The fields of a converted pattern, class by class (42_convert.md R122 to R131): the layer the statements about `CVT`
rest on. Exponents are natural numbers here, with the bias moved so that no subtraction is cut off. -/

namespace Sys2Proof

/-- The sign of a packed pattern, whatever its other fields. -/
@[simp] theorem sign_mk (f : Format) (s : Bool) (e m : Nat) : sign f (mk f s e m) = s := by
  have hW : f.W - 1 = f.E + f.M := by rw [f.W_eq]; omega
  have hlt : f.E + f.M < f.W := by rw [f.W_eq]; omega
  rw [sign, mk, hW, BitVec.getLsbD_setWidth, decide_eq_true hlt, Bool.true_and, BitVec.getLsbD_append,
    if_neg (by omega), Nat.add_sub_cancel, BitVec.getLsbD_append, if_neg (by omega), Nat.sub_self]
  simp

/-- The stored fields of a pattern known as packed. -/
theorem fields_of_eq_mk {f : Format} {p : Pattern f} {s : Bool} {e m : Nat} (hp : p = mk f s e m) (he : e ≤ f.EMAX)
    (hm : m < 2 ^ f.M) : expf f p = e ∧ mantf f p = m := by
  rw [hp]
  exact (fields_mk f s he hm).2

/-- A pattern is known by its three fields. -/
theorem pattern_ext {f : Format} {p q : Pattern f} (hs : sign f p = sign f q) (he : expf f p = expf f q)
    (hm : mantf f p = mantf f q) : p = q := by
  rw [← mk_fields f p, hs, he, hm, mk_fields]

/-- A pattern's number from its three fields, as the statements write it. -/
theorem toNat_eq_packed (f : Format) (p : Pattern f) : p.toNat = Raw.packed f (sign f p) (expf f p) (mantf f p) := by
  rw [Raw.packed, ← mk_toNat f _ (expf_le f p) (mantf_lt f p), mk_fields]

theorem raw_sign (f : Format) (p : Pattern f) : Raw.sign f p.toNat = sign f p := (sign_eq f p).symm
theorem raw_expf (f : Format) (p : Pattern f) : Raw.expf f p.toNat = expf f p := (expf_eq f p).symm
theorem raw_mantf (f : Format) (p : Pattern f) : Raw.mantf f p.toNat = mantf f p := (mantf_eq f p).symm

theorem canonQnanMant_lt (f : Format) : f.canonQnanMant < 2 ^ f.M :=
  Nat.pow_lt_pow_right one_lt_two (by have := f.M_ge; omega)

/-- The quiet bit of the narrower mantissa field is padded to the quiet bit of the wider one. -/
theorem quietBit_widened {sf df : Format} (h : sf.W < df.W) :
    2 ^ (sf.M - 1) * 2 ^ (df.M - sf.M) = 2 ^ (df.M - 1) := by
  obtain ⟨-, hM, -⟩ := Format.wider h
  have hge := sf.M_ge
  rw [← pow_add]
  congr 1
  omega

/-- A padded mantissa field is in range. -/
theorem padded_lt_of_wider {sf df : Format} (h : sf.W < df.W) {m : Nat} (hm : m < 2 ^ sf.M) :
    m * 2 ^ (df.M - sf.M) < 2 ^ df.M := by
  obtain ⟨-, hM, -⟩ := Format.wider h
  calc m * 2 ^ (df.M - sf.M) < 2 ^ sf.M * 2 ^ (df.M - sf.M) := Nat.mul_lt_mul_of_pos_right hm (by positivity)
    _ = 2 ^ df.M := by rw [← pow_add]; congr 1; omega

end Sys2Proof

namespace Sys2Proof.Machine

variable {sf df : Format} {p : Pattern sf}

@[simp] theorem sign_widen (sf df : Format) (p : Pattern sf) : sign df (widen sf df p) = sign sf p := by
  unfold widen
  cases classify sf p <;> exact sign_mk ..

@[simp] theorem sign_narrowNormal (sf df : Format) (s : Bool) (e2 : Int) (m : Nat) :
    sign df (narrowNormal sf df s e2 m) = s := by
  unfold narrowNormal
  split_ifs <;> exact sign_mk ..

@[simp] theorem sign_narrow (sf df : Format) (p : Pattern sf) : sign df (narrow sf df p) = sign sf p := by
  unfold narrow
  cases classify sf p with
  | normal => exact sign_narrowNormal ..
  | zero | subnormal | infinite | qnan | snan => exact sign_mk ..

/-! ### Widening -/

theorem widen_fields_of_zero (hc : classify sf p = .zero) :
    expf df (widen sf df p) = 0 ∧ mantf df (widen sf df p) = 0 :=
  fields_of_eq_mk (by rw [widen, hc]) (Nat.zero_le _) (by positivity)

theorem widen_fields_of_infinite (hc : classify sf p = .infinite) :
    expf df (widen sf df p) = df.EMAX ∧ mantf df (widen sf df p) = 0 :=
  fields_of_eq_mk (by rw [widen, hc]) le_rfl (by positivity)

/-- A NaN's payload is shifted to the high end of the wider field (42_convert.md R126). -/
theorem widen_fields_of_nan (h : sf.W < df.W) (hc : (classify sf p).isNaN = true) :
    expf df (widen sf df p) = df.EMAX ∧ mantf df (widen sf df p) = mantf sf p * 2 ^ (df.M - sf.M) := by
  refine fields_of_eq_mk (s := sign sf p) ?_ le_rfl (padded_lt_of_wider h (mantf_lt sf p))
  rw [← Nat.shiftLeft_eq]
  cases hp : classify sf p with
  | qnan | snan => rw [widen, hp]; rfl
  | zero | subnormal | normal | infinite => rw [hp] at hc; cases hc

/-- A Normal is rebiased and padded (42_convert.md R124). -/
theorem widen_fields_of_normal (h : sf.W < df.W) (hc : classify sf p = .normal) :
    expf df (widen sf df p) = expf sf p + df.B - sf.B ∧
      mantf df (widen sf df p) = mantf sf p * 2 ^ (df.M - sf.M) := by
  obtain ⟨-, -, hB⟩ := Format.wider h
  obtain ⟨hpos, hlt⟩ := (classify_normal_iff sf p).1 hc
  obtain ⟨-, he, -⟩ := widenNormal_range h hpos hlt (mantf_lt sf p)
  have hrebias : ((expf sf p : Int) - sf.B + df.B).toNat = expf sf p + df.B - sf.B := by omega
  refine fields_of_eq_mk (s := sign sf p) ?_ he.le (padded_lt_of_wider h (mantf_lt sf p))
  rw [widen, hc]
  simp only [widenNormal, hrebias, Nat.shiftLeft_eq]

/-- A Subnormal is normalised: its leading 1 becomes the implicit bit (42_convert.md R125). -/
theorem widen_fields_of_subnormal (h : sf.W < df.W) (hc : classify sf p = .subnormal) :
    expf df (widen sf df p) = Nat.log2 (mantf sf p) + 1 + df.B - sf.B - sf.M ∧
      mantf df (widen sf df p) =
        (mantf sf p - 2 ^ Nat.log2 (mantf sf p)) * 2 ^ (df.M - Nat.log2 (mantf sf p)) := by
  obtain ⟨-, -, hB⟩ := Format.wider h
  obtain ⟨-, hm⟩ := (classify_subnormal_iff sf p).1 hc
  obtain ⟨-, he, hlt⟩ := widenSubnormal_range h hm (mantf_lt sf p)
  rw [Nat.shiftLeft_eq] at hlt
  have hrebias : ((Nat.log2 (mantf sf p) : Int) + 1 - sf.B - sf.M + df.B).toNat =
      Nat.log2 (mantf sf p) + 1 + df.B - sf.B - sf.M := by omega
  refine fields_of_eq_mk (s := sign sf p) ?_ he.le hlt
  rw [widen, hc]
  simp only [widenSubnormal, floorLog2, hrebias, Nat.shiftLeft_eq]

/-- The class of a widened pattern (42_convert.md R134). -/
theorem classify_widen (h : sf.W < df.W) (p : Pattern sf) :
    classify df (widen sf df p) = if classify sf p = .subnormal then .normal else classify sf p := by
  obtain ⟨-, hM, -⟩ := Format.wider h
  cases hc : classify sf p with
  | zero => exact (classify_zero_iff df _).2 (widen_fields_of_zero hc)
  | infinite => exact (classify_infinite_iff df _).2 (widen_fields_of_infinite hc)
  | normal =>
    obtain ⟨hpos, hlt⟩ := (classify_normal_iff sf p).1 hc
    obtain ⟨hpos', hlt', -⟩ := widenNormal_range h hpos hlt (mantf_lt sf p)
    refine (classify_normal_iff df _).2 ?_
    rw [(widen_fields_of_normal h hc).1]
    exact ⟨hpos', hlt'⟩
  | subnormal =>
    obtain ⟨-, hm⟩ := (classify_subnormal_iff sf p).1 hc
    obtain ⟨hpos', hlt', -⟩ := widenSubnormal_range h hm (mantf_lt sf p)
    refine (classify_normal_iff df _).2 ?_
    rw [(widen_fields_of_subnormal h hc).1]
    exact ⟨hpos', hlt'⟩
  | qnan =>
    obtain ⟨-, hquiet⟩ := (classify_qnan_iff sf p).1 hc
    obtain ⟨he, hm⟩ := widen_fields_of_nan h (p := p) (by rw [hc]; rfl)
    refine (classify_qnan_iff df _).2 ⟨he, ?_⟩
    rw [hm, ← quietBit_widened h]
    exact Nat.mul_le_mul_right _ hquiet
  | snan =>
    obtain ⟨-, hpos, hsignal⟩ := (classify_snan_iff sf p).1 hc
    obtain ⟨he, hm⟩ := widen_fields_of_nan h (p := p) (by rw [hc]; rfl)
    refine (classify_snan_iff df _).2 ⟨he, ?_⟩
    rw [hm, ← quietBit_widened h]
    exact ⟨by positivity, Nat.mul_lt_mul_of_pos_right hsignal (by positivity)⟩

end Sys2Proof.Machine
end

section
/-! Narrowing (42_convert.md R127 to R131): the fields of the result for each class and, for a Normal, each range of the
rebiased exponent. -/

namespace Sys2Proof.Machine

variable {sf df : Format} {p : Pattern sf}

theorem narrow_of_nan (hc : (classify sf p).isNaN = true) :
    narrow sf df p = mk df (sign sf p) df.EMAX df.canonQnanMant := by
  cases hp : classify sf p with
  | qnan | snan => rw [narrow, hp]
  | zero | subnormal | normal | infinite => rw [hp] at hc; cases hc

theorem narrow_fields_of_nan (hc : (classify sf p).isNaN = true) :
    expf df (narrow sf df p) = df.EMAX ∧ mantf df (narrow sf df p) = df.canonQnanMant :=
  fields_of_eq_mk (narrow_of_nan hc) le_rfl (canonQnanMant_lt df)

theorem narrow_fields_of_infinite (hc : classify sf p = .infinite) :
    expf df (narrow sf df p) = df.EMAX ∧ mantf df (narrow sf df p) = 0 :=
  fields_of_eq_mk (by rw [narrow, hc]) le_rfl (by positivity)

/-- Zero and Subnormal narrow to Zero: both have exponent field 0. -/
theorem narrow_fields_of_expf_zero (he : expf sf p = 0) :
    expf df (narrow sf df p) = 0 ∧ mantf df (narrow sf df p) = 0 := by
  refine fields_of_eq_mk (s := sign sf p) ?_ (Nat.zero_le _) (by positivity)
  by_cases hm : mantf sf p = 0
  · rw [narrow, (classify_zero_iff sf p).2 ⟨he, hm⟩]
  · rw [narrow, (classify_subnormal_iff sf p).2 ⟨he, hm⟩]

theorem narrow_of_normal (hc : classify sf p = .normal) : narrow sf df p =
    narrowNormal sf df (sign sf p) ((expf sf p : Int) - sf.B + df.B) (mantf sf p) := by
  rw [narrow, hc]

/-- A Normal too large for the destination saturates to Infinity (42_convert.md R130, case 1). -/
theorem narrow_fields_of_overflow (hc : classify sf p = .normal) (hover : df.EMAX + sf.B ≤ expf sf p + df.B) :
    expf df (narrow sf df p) = df.EMAX ∧ mantf df (narrow sf df p) = 0 := by
  refine fields_of_eq_mk (s := sign sf p) ?_ le_rfl (by positivity)
  rw [narrow_of_normal hc, narrowNormal, if_pos (by omega)]

/-- A Normal in the destination's Normal range is rebiased and truncated (42_convert.md R130, case 2). -/
theorem narrow_fields_of_normal_range (h : df.W < sf.W) (hc : classify sf p = .normal)
    (hlow : sf.B + 1 ≤ expf sf p + df.B) (hhigh : expf sf p + df.B < df.EMAX + sf.B) :
    expf df (narrow sf df p) = expf sf p + df.B - sf.B ∧
      mantf df (narrow sf df p) = mantf sf p >>> (sf.M - df.M) := by
  have hrebias : ((expf sf p : Int) - sf.B + df.B).toNat = expf sf p + df.B - sf.B := by omega
  refine fields_of_eq_mk (s := sign sf p) ?_ (by omega) (narrow_truncated_lt h (mantf_lt sf p))
  rw [narrow_of_normal hc, narrowNormal, if_neg (by omega), if_pos (by omega), hrebias]
  rfl

/-- A Normal below the destination's Normal range is shifted, implicit 1 included, into the Subnormals, or to Zero
(42_convert.md R130, cases 3 and 4). -/
theorem narrow_fields_of_low_range (h : df.W < sf.W) (hc : classify sf p = .normal)
    (hlow : expf sf p + df.B < sf.B + 1) :
    expf df (narrow sf df p) = 0 ∧ mantf df (narrow sf df p) =
      (2 ^ sf.M + mantf sf p) >>> (sf.M - df.M + (1 + sf.B - (expf sf p + df.B))) := by
  obtain ⟨-, hM, -⟩ := Format.wider h
  have hshift : ((sf.M : Int) - df.M + (1 - ((expf sf p : Int) - sf.B + df.B))).toNat =
      sf.M - df.M + (1 + sf.B - (expf sf p + df.B)) := by omega
  refine fields_of_eq_mk (s := sign sf p) ?_ (Nat.zero_le _) (narrow_denormalised_lt h (mantf_lt sf p) (by omega))
  have hEMAX := df.EMAX_eq
  rw [narrow_of_normal hc, narrowNormal, if_neg (by omega), if_neg (by omega), hshift]
  rfl

theorem classify_narrow_of_nan (hc : (classify sf p).isNaN = true) : classify df (narrow sf df p) = .qnan := by
  obtain ⟨he, hm⟩ := narrow_fields_of_nan (df := df) hc
  exact (classify_qnan_iff df _).2 ⟨he, hm.ge⟩

/-- No Normal narrows to a NaN. -/
theorem classify_narrow_of_normal (h : df.W < sf.W) (hc : classify sf p = .normal) :
    classify df (narrow sf df p) ∈ [FpClass.infinite, .normal, .subnormal, .zero] := by
  have hnan : (classify df (narrow sf df p)).isNaN ≠ true := by
    rw [ne_eq, classify_nan_iff]
    rintro ⟨he, hm⟩
    obtain hover | hhigh := le_or_gt (df.EMAX + sf.B) (expf sf p + df.B)
    · exact hm (narrow_fields_of_overflow hc hover).2
    · have hEMAX := df.EMAX_eq
      obtain hlow | hlow := le_or_gt (sf.B + 1) (expf sf p + df.B)
      · have := (narrow_fields_of_normal_range h hc hlow hhigh).1
        omega
      · have := (narrow_fields_of_low_range h hc hlow).1
        omega
  generalize classify df (narrow sf df p) = c at hnan ⊢
  revert hnan
  cases c <;> decide

/-- The sign of a conversion's result, for every pair of formats. -/
@[simp] theorem sign_convert (sf df : Format) (p : Pattern sf) : sign df (convert sf df p) = sign sf p := by
  obtain hW | hW | hW := lt_trichotomy sf.W df.W
  · rw [convert_of_wider hW, sign_widen]
  · obtain rfl := Format.W_inj hW
    rw [convert_of_same rfl, BitVec.setWidth_eq]
  · rw [convert_of_narrower hW, sign_narrow]

end Sys2Proof.Machine
end

section
/-! `CVT` on the ports, and its results as the numbers the statements write out (42_convert.md R121, R122, R127, R128,
R137, R138). -/

namespace Sys2Proof.Machine

/-- The host reads back the pattern a conversion gives. -/
@[simp] theorem drive_withResult_result (s : State) (r : ResponsePorts) (f : Format) (p : Pattern f) :
    (s.drive (r.withResult f p)).result f = p :=
  withResult_rData_setWidth r f p

/-- A conversion of an operand of the right length, as the whole next state. -/
theorem exec_cvt_eq_resultResponse {sf df : Format} {s : State} (h : s.req.aLen.toNat = sf.NB) :
    exec (Op.cvt sf df).instr s =
      .next ⟨s.req, resultResponse df (convert sf df (s.pattern sf)).toNat⟩ := by
  rw [exec_cvt_of_length h, accepted_withResult]
  rfl

/-- A conversion of an operand of the right length answers, with the converted pattern in its result buffer. -/
theorem exists_exec_cvt_result (sf df : Format) {s : State} (h : s.req.aLen.toNat = sf.NB) :
    ∃ t, exec (Op.cvt sf df).instr s = .next t ∧ t.result df = convert sf df (s.pattern sf) :=
  ⟨_, exec_cvt_of_length h, drive_withResult_result ..⟩

theorem pattern_toNat (s : State) (f : Format) : (s.pattern f).toNat = Raw.operand f s.req.aData :=
  BitVec.toNat_setWidth ..

/-- The five cases of widening, as plain numbers (42_convert.md R122). -/
theorem widen_toNat {sf df : Format} (h : sf.W < df.W) (p : Pattern sf) :
    (widen sf df p).toNat = Raw.widened sf df p.toNat := by
  rw [toNat_eq_packed, sign_widen, Raw.widened, raw_sign, raw_expf, raw_mantf]
  split_ifs with he hm hlt
  · obtain ⟨he', hm'⟩ := widen_fields_of_zero (df := df) ((classify_zero_iff sf p).2 ⟨he, hm⟩)
    rw [he', hm']
  · obtain ⟨he', hm'⟩ := widen_fields_of_subnormal h ((classify_subnormal_iff sf p).2 ⟨he, hm⟩)
    rw [he', hm']
  · obtain ⟨he', hm'⟩ := widen_fields_of_normal h ((classify_normal_iff sf p).2 ⟨Nat.pos_of_ne_zero he, hlt⟩)
    rw [he', hm']
  · have hEMAX : expf sf p = sf.EMAX := le_antisymm (expf_le sf p) (Nat.le_of_not_lt hlt)
    by_cases hm : mantf sf p = 0
    · obtain ⟨he', hm'⟩ := widen_fields_of_infinite (df := df) ((classify_infinite_iff sf p).2 ⟨hEMAX, hm⟩)
      rw [he', hm', hm, Nat.zero_mul]
      rfl
    · obtain ⟨he', hm'⟩ := widen_fields_of_nan h ((classify_nan_iff sf p).2 ⟨hEMAX, hm⟩)
      rw [he', hm']
      rfl

/-- The cases of narrowing, as plain numbers (42_convert.md R127). -/
theorem narrow_toNat {sf df : Format} (h : df.W < sf.W) (p : Pattern sf) :
    (narrow sf df p).toNat = Raw.narrowed sf df p.toNat := by
  rw [toNat_eq_packed, sign_narrow, Raw.narrowed, raw_sign, raw_expf, raw_mantf]
  split_ifs with hEMAX hm he hover hlow
  · obtain ⟨he', hm'⟩ := narrow_fields_of_infinite (df := df) ((classify_infinite_iff sf p).2 ⟨hEMAX, hm⟩)
    rw [he', hm']
    rfl
  · obtain ⟨he', hm'⟩ := narrow_fields_of_nan (df := df) ((classify_nan_iff sf p).2 ⟨hEMAX, hm⟩)
    rw [he', hm']
    rfl
  · obtain ⟨he', hm'⟩ := narrow_fields_of_expf_zero (df := df) he
    rw [he', hm']
  all_goals
    have hc : classify sf p = .normal :=
      (classify_normal_iff sf p).2 ⟨Nat.pos_of_ne_zero he, lt_of_le_of_ne (expf_le sf p) hEMAX⟩
  · obtain ⟨he', hm'⟩ := narrow_fields_of_overflow (df := df) hc hover
    rw [he', hm']
    rfl
  · obtain ⟨he', hm'⟩ := narrow_fields_of_normal_range h hc hlow (Nat.lt_of_not_le hover)
    rw [he', hm']
  · obtain ⟨he', hm'⟩ := narrow_fields_of_low_range h hc (Nat.lt_of_not_le hlow)
    rw [he', hm']

/-- Settles O27: at equal widths `convert` is the identity. -/
theorem sameWidthConversionIsIdentity : Obligations.SameWidthConversionIsIdentity := by
  unfold Obligations.SameWidthConversionIsIdentity
  intro f s hlen
  rw [exec_cvt_eq_resultResponse hlen, convert_of_same rfl, BitVec.setWidth_eq, pattern_toNat]

/-- Settles O28: `convert` is `widen`, whose result has the number `Raw.widened` gives. -/
theorem wideningByClass : Obligations.WideningByClass := by
  unfold Obligations.WideningByClass
  intro sf df s h hlen
  rw [exec_cvt_eq_resultResponse hlen, convert_of_wider h, widen_toNat h, pattern_toNat]

/-- Settles O29: `convert` is `narrow`, whose result has the number `Raw.narrowed` gives. -/
theorem narrowingByClass : Obligations.NarrowingByClass := by
  unfold Obligations.NarrowingByClass
  intro sf df s h hlen
  rw [exec_cvt_eq_resultResponse hlen, convert_of_narrower h, narrow_toNat h, pattern_toNat]

/-- Settles O36: every case of every pair packs the operand's sign. -/
theorem conversionKeepsSign : Obligations.ConversionKeepsSign := by
  unfold Obligations.ConversionKeepsSign
  intro sf df s hlen
  obtain ⟨t, ht, hresult⟩ := exists_exec_cvt_result sf df hlen
  exact ⟨t, ht, by rw [hresult, sign_convert]⟩

/-- Settles O35: a NaN narrows to the canonical quiet NaN, whose number is computed for each destination and sign. -/
theorem narrowedNaNsAreCanonical : Obligations.NarrowedNaNsAreCanonical := by
  unfold Obligations.NarrowedNaNsAreCanonical
  intro sf df s h hlen hnan
  rw [exec_cvt_eq_resultResponse hlen, convert_of_narrower h, narrow_of_nan hnan,
    mk_toNat df _ le_rfl (canonQnanMant_lt df)]
  cases df with
  | quarter | half | single | double | quadruple => cases sign sf (s.pattern sf) <;> rfl
  | octuple => exact absurd sf.W_le (Nat.not_le.2 h)

/-- Settles O34: the identity, then `classify_widen`, then the classes of `narrow`'s fields. -/
theorem resultClassByOperandClass : Obligations.ResultClassByOperandClass := by
  unfold Obligations.ResultClassByOperandClass
  intro sf df s hlen
  obtain ⟨t, ht, hresult⟩ := exists_exec_cvt_result sf df hlen
  refine ⟨t, ht, fun h => ?_, fun h => ?_, fun h => ?_⟩
  · obtain rfl := Format.W_inj h
    rw [hresult, convert_of_same rfl, BitVec.setWidth_eq]
    exact ⟨rfl, rfl⟩
  · rw [hresult, convert_of_wider h]
    exact ⟨classify_widen h _, fun hc => (widen_fields_of_nan h hc).2⟩
  · rw [hresult, convert_of_narrower h]
    refine ⟨fun hc => ?_, fun hc => ?_, fun hc => ?_, fun hc => ?_, fun hc => classify_narrow_of_normal h hc⟩
    · exact (classify_zero_iff df _).2 (narrow_fields_of_expf_zero ((classify_zero_iff sf _).1 hc).1)
    · exact (classify_zero_iff df _).2 (narrow_fields_of_expf_zero ((classify_subnormal_iff sf _).1 hc).1)
    · exact (classify_infinite_iff df _).2 (narrow_fields_of_infinite hc)
    · exact ⟨classify_narrow_of_nan hc, (narrow_fields_of_nan hc).2⟩

end Sys2Proof.Machine
end

section
/-! The magnitude of a finite pattern as a natural number times a power of two (41_classify.md R103), the form in which
shifts of the significand are seen to keep or to lower it. -/

namespace Sys2Proof

/-- The significand of a finite pattern as a natural number: the mantissa field, with the implicit 1 of a Normal. -/
def significand (f : Format) (p : Pattern f) : ℕ := (if expf f p = 0 then 0 else 2 ^ f.M) + mantf f p

/-- The exponent of the lowest bit of a finite pattern: Subnormals share it with the smallest Normals. -/
def scale (f : Format) (p : Pattern f) : ℤ := max (expf f p : ℤ) 1 - f.B - f.M

/-- The absolute value of a finite pattern (`value_eq_magnitude`). -/
def magnitude (f : Format) (p : Pattern f) : ℚ := significand f p * 2 ^ scale f p

section

variable {f : Format} {p : Pattern f}

theorem significand_of_expf_zero (he : expf f p = 0) : significand f p = mantf f p := by
  rw [significand, if_pos he, Nat.zero_add]

theorem significand_of_expf_ne_zero (he : expf f p ≠ 0) : significand f p = 2 ^ f.M + mantf f p := by
  rw [significand, if_neg he]

theorem scale_of_expf_zero (he : expf f p = 0) : scale f p = 1 - f.B - f.M := by
  rw [scale, he]
  rfl

theorem scale_of_expf_ne_zero (he : expf f p ≠ 0) : scale f p = expf f p - f.B - f.M := by
  rw [scale, max_eq_left (by omega)]

theorem magnitude_nonneg (f : Format) (p : Pattern f) : 0 ≤ magnitude f p := by
  rw [magnitude]
  positivity

/-- The value of a finite pattern is its magnitude with its sign. -/
theorem value_eq_magnitude (hfin : expf f p < f.EMAX) : value f p = some (signFactor (sign f p) * magnitude f p) := by
  obtain he | he := eq_or_ne (expf f p) 0
  · rw [magnitude, significand_of_expf_zero he, scale_of_expf_zero he]
    obtain hm | hm := eq_or_ne (mantf f p) 0
    · rw [value_of_zero ((classify_zero_iff f p).2 ⟨he, hm⟩), hm]
      simp
    · rw [value_of_subnormal ((classify_subnormal_iff f p).2 ⟨he, hm⟩), mul_assoc, subnormal_magnitude]
  · rw [magnitude, significand_of_expf_ne_zero he, scale_of_expf_ne_zero he,
      value_of_normal ((classify_normal_iff f p).2 ⟨Nat.pos_of_ne_zero he, hfin⟩), mul_assoc, normal_magnitude]

/-- Only finite patterns have a value. -/
theorem expf_lt_of_value {v : ℚ} (h : value f p = some v) : expf f p < f.EMAX := by
  rw [← isFinite_iff_expf_lt, ← value_isSome_iff, h]
  rfl

theorem value_eq_none_iff (f : Format) (p : Pattern f) : value f p = none ↔ isFinite f p = false := by
  rw [← Option.not_isSome_iff_eq_none, value_isSome_iff, Bool.not_eq_true]

theorem abs_eq_magnitude_of_value {v : ℚ} (h : value f p = some v) : |v| = magnitude f p := by
  rw [value_eq_magnitude (expf_lt_of_value h), Option.some.injEq] at h
  rw [← h, abs_mul, abs_signFactor, one_mul, abs_of_nonneg (magnitude_nonneg f p)]

end

/-- A significand with `j` more low zeros and a scale `j` lower stands for the same magnitude. -/
theorem magnitude_eq_of_padded {f g : Format} {p : Pattern f} {q : Pattern g} (j : ℕ)
    (hn : significand g q = significand f p * 2 ^ j) (hk : scale g q = scale f p - j) :
    magnitude g q = magnitude f p := by
  rw [magnitude, magnitude, hn, hk, zpow_sub₀ two_ne_zero, zpow_natCast]
  push_cast
  field_simp

end Sys2Proof
end

section
/-! Widening loses nothing (42_convert.md R134, R135): the magnitude is only written with more low zeros, and narrowing the
result back gives the operand. -/

namespace Sys2Proof.Machine

variable {sf df : Format}

/-- A Subnormal's mantissa field with its leading 1 moved to the place of the wider format's implicit 1. -/
theorem implicit_add_normalised {m n : ℕ} (hm : m ≠ 0) (hn : Nat.log2 m ≤ n) :
    2 ^ n + (m - 2 ^ Nat.log2 m) * 2 ^ (n - Nat.log2 m) = m * 2 ^ (n - Nat.log2 m) := by
  have hlead : 2 ^ n = 2 ^ Nat.log2 m * 2 ^ (n - Nat.log2 m) := by rw [← pow_add, Nat.add_sub_cancel' hn]
  rw [hlead, ← Nat.add_mul, Nat.add_sub_cancel' (Nat.log2_self_le hm)]

theorem magnitude_widen (h : sf.W < df.W) {p : Pattern sf} (hfin : expf sf p < sf.EMAX) :
    magnitude df (widen sf df p) = magnitude sf p := by
  obtain ⟨-, hM, hB⟩ := Format.wider h
  obtain he | he := eq_or_ne (expf sf p) 0
  · obtain hm | hm := eq_or_ne (mantf sf p) 0
    · obtain ⟨he', hm'⟩ := widen_fields_of_zero (df := df) ((classify_zero_iff sf p).2 ⟨he, hm⟩)
      rw [magnitude, magnitude, significand_of_expf_zero he, significand_of_expf_zero he', hm, hm', Nat.cast_zero,
        zero_mul, zero_mul]
    · obtain ⟨he', hm'⟩ := widen_fields_of_subnormal h ((classify_subnormal_iff sf p).2 ⟨he, hm⟩)
      have hlog : Nat.log2 (mantf sf p) < sf.M := (Nat.log2_lt hm).2 (mantf_lt sf p)
      have hpos : expf df (widen sf df p) ≠ 0 := by omega
      apply magnitude_eq_of_padded (df.M - Nat.log2 (mantf sf p))
      · rw [significand_of_expf_ne_zero hpos, significand_of_expf_zero he, hm',
          implicit_add_normalised hm (hlog.trans hM).le]
      · rw [scale_of_expf_ne_zero hpos, scale_of_expf_zero he, he']
        omega
  · obtain ⟨he', hm'⟩ := widen_fields_of_normal h ((classify_normal_iff sf p).2 ⟨Nat.pos_of_ne_zero he, hfin⟩)
    have hpos : expf df (widen sf df p) ≠ 0 := by omega
    apply magnitude_eq_of_padded (df.M - sf.M)
    · rw [significand_of_expf_ne_zero hpos, significand_of_expf_ne_zero he, hm', Nat.add_mul, ← pow_add,
        Nat.add_sub_cancel' hM.le]
    · rw [scale_of_expf_ne_zero hpos, scale_of_expf_ne_zero he, he']
      omega

theorem isFinite_widen (h : sf.W < df.W) (p : Pattern sf) : isFinite df (widen sf df p) = isFinite sf p := by
  rw [isFinite, isFinite, classify_widen h]
  cases classify sf p <;> rfl

theorem isNaN_widen (h : sf.W < df.W) (p : Pattern sf) :
    (classify df (widen sf df p)).isNaN = (classify sf p).isNaN := by
  rw [classify_widen h]
  cases classify sf p <;> rfl

/-- Widening is exact (42_convert.md R134). -/
theorem value_widen (h : sf.W < df.W) (p : Pattern sf) : value df (widen sf df p) = value sf p := by
  have hfinite := isFinite_widen h p
  cases hfin : isFinite sf p with
  | true =>
    rw [hfin, isFinite_iff_expf_lt] at hfinite
    rw [isFinite_iff_expf_lt] at hfin
    rw [value_eq_magnitude hfin, value_eq_magnitude hfinite, magnitude_widen h hfin, sign_widen]
  | false => rw [(value_eq_none_iff sf p).2 hfin, (value_eq_none_iff df _).2 (hfinite.trans hfin)]

/-- Narrowing a widened pattern back gives the pattern (42_convert.md R135). -/
theorem narrow_widen (h : sf.W < df.W) {p : Pattern sf} (hnan : (classify sf p).isNaN = false) :
    narrow df sf (widen sf df p) = p := by
  obtain ⟨-, hM, hB⟩ := Format.wider h
  have hEMAX := sf.EMAX_eq
  have hclass := classify_widen h p
  suffices hfields : expf sf (narrow df sf (widen sf df p)) = expf sf p ∧
      mantf sf (narrow df sf (widen sf df p)) = mantf sf p from
    pattern_ext (by rw [sign_narrow, sign_widen]) hfields.1 hfields.2
  cases hc : classify sf p with
  | zero =>
    obtain ⟨he, hm⟩ := (classify_zero_iff sf p).1 hc
    rw [he, hm]
    exact narrow_fields_of_expf_zero (widen_fields_of_zero hc).1
  | infinite =>
    rw [hc] at hclass
    obtain ⟨he, hm⟩ := (classify_infinite_iff sf p).1 hc
    rw [he, hm]
    exact narrow_fields_of_infinite hclass
  | normal =>
    rw [hc] at hclass
    obtain ⟨hpos, hlt⟩ := (classify_normal_iff sf p).1 hc
    obtain ⟨he, hm⟩ := widen_fields_of_normal h hc
    obtain ⟨he', hm'⟩ := narrow_fields_of_normal_range h hclass (by omega) (by omega)
    rw [he', hm', he, hm, Nat.shiftRight_eq_div_pow, Nat.mul_div_cancel _ (by positivity)]
    exact ⟨by omega, rfl⟩
  | subnormal =>
    rw [hc] at hclass
    obtain ⟨he0, hm0⟩ := (classify_subnormal_iff sf p).1 hc
    obtain ⟨he, hm⟩ := widen_fields_of_subnormal h hc
    have hlog : Nat.log2 (mantf sf p) < sf.M := (Nat.log2_lt hm0).2 (mantf_lt sf p)
    obtain ⟨he', hm'⟩ := narrow_fields_of_low_range h hclass (by omega)
    have hshift : df.M - sf.M + (1 + df.B - (expf df (widen sf df p) + sf.B)) = df.M - Nat.log2 (mantf sf p) := by omega
    rw [he', hm', hshift, hm, implicit_add_normalised hm0 (hlog.trans hM).le, Nat.shiftRight_eq_div_pow,
      Nat.mul_div_cancel _ (by positivity)]
    exact ⟨he0.symm, rfl⟩
  | qnan | snan => rw [hc] at hnan; cases hnan

/-- A NaN comes back as the canonical quiet NaN of its sign. -/
theorem narrow_widen_of_nan (h : sf.W < df.W) {p : Pattern sf} (hnan : (classify sf p).isNaN = true) :
    narrow df sf (widen sf df p) = mk sf (sign sf p) sf.EMAX sf.canonQnanMant := by
  rw [narrow_of_nan (by rw [isNaN_widen h, hnan]), sign_widen]

/-- Distinct operands widen to distinct results: a non-NaN is what narrowing gives back, a NaN has its payload padded. -/
theorem widen_injective (h : sf.W < df.W) : Function.Injective (widen sf df) := by
  intro p q hpq
  have hnan : (classify sf p).isNaN = (classify sf q).isNaN := by rw [← isNaN_widen h p, hpq, isNaN_widen h q]
  cases hp : (classify sf p).isNaN with
  | false => rw [← narrow_widen h hp, hpq, narrow_widen h (hnan.symm.trans hp)]
  | true =>
    have hq := hnan.symm.trans hp
    have hpad : mantf sf p * 2 ^ (df.M - sf.M) = mantf sf q * 2 ^ (df.M - sf.M) := by
      rw [← (widen_fields_of_nan h hp).2, hpq, (widen_fields_of_nan h hq).2]
    apply pattern_ext
    · rw [← sign_widen sf df p, hpq, sign_widen]
    · rw [((classify_nan_iff sf p).1 hp).1, ((classify_nan_iff sf q).1 hq).1]
    · exact Nat.eq_of_mul_eq_mul_right (by positivity) hpad

/-- Settles O30: exactness, class and injectivity of `widen`, read off the result buffers. -/
theorem wideningIsExact : Obligations.WideningIsExact := by
  unfold Obligations.WideningIsExact
  intro sf df s s' h hlen hlen'
  obtain ⟨t, ht, hresult⟩ := exists_exec_cvt_result sf df hlen
  obtain ⟨t', ht', hresult'⟩ := exists_exec_cvt_result sf df hlen'
  rw [convert_of_wider h] at hresult hresult'
  refine ⟨t, t', ht, ht', by rw [hresult, value_widen h], by rw [hresult, classify_widen h], fun hdata => ?_⟩
  apply widen_injective h
  rw [← hresult, ← hresult', State.result, State.result, hdata]

/-- A request with an instruction's command word runs that instruction. -/
theorem step_of_encode {s : State} {i : Instr} (hvalid : s.req.reqValid = true) (hcmd : s.req.cmd = encode i) :
    step s = exec i s := by
  have hdecode : decode s.req.cmd = .ok i := by rw [hcmd, decode_encode]
  rw [step_of_legal hvalid hdecode, exec_eq_perform]

/-- Settles O31: the second step converts the first one's result, and `narrow` undoes `widen` but for a NaN. -/
theorem roundTripThroughWiderFormat : Obligations.RoundTripThroughWiderFormat := by
  unfold Obligations.RoundTripThroughWiderFormat
  intro sf df s h hlen
  set t := s.drive (ResponsePorts.accepted.withResult df (widen sf df (s.pattern sf)))
  set s₂ := t.presentResult (encode (Op.cvt df sf).instr)
  have ht : exec (Op.cvt sf df).instr s = .next t := by rw [exec_cvt_of_length hlen, convert_of_wider h]; rfl
  have hlen₂ : s₂.req.aLen.toNat = df.NB := df.toNat_ofNat_NB
  have hpattern₂ : s₂.req.aData.setWidth df.W = widen sf df (s.pattern sf) :=
    withResult_rData_setWidth ResponsePorts.accepted df _
  have hu : step s₂ = .next (s₂.drive
      (ResponsePorts.accepted.withResult sf (narrow df sf (widen sf df (s.pattern sf))))) := by
    rw [step_of_encode (State.presentResult_reqValid ..) (State.presentResult_cmd ..), exec_cvt_of_length hlen₂,
      hpattern₂, convert_of_narrower h]
  refine ⟨t, _, ht, hu, rfl, sf.toNat_ofNat_NB, ?_⟩
  rw [State.drive_rsp, withResult_rData_toNat]
  cases hnan : (classify sf (s.pattern sf)).isNaN with
  | false => rw [narrow_widen h hnan]; rfl
  | true =>
    rw [narrow_widen_of_nan h hnan, mk_toNat sf _ le_rfl (canonQnanMant_lt sf)]
    rfl

end Sys2Proof.Machine
end

section
/-! Narrowing rounds toward zero (42_convert.md R136). A magnitude is cut off at the scale of the result; what is cut off
is less than one unit of that scale, and no destination pattern lies between. -/

namespace Sys2Proof

variable {f : Format}

theorem le_scale (f : Format) (p : Pattern f) : 1 - (f.B : ℤ) - f.M ≤ scale f p := by
  rw [scale]
  have := le_max_right (expf f p : ℤ) 1
  omega

/-- A significand has at most M + 1 bits. -/
theorem significand_lt (f : Format) (p : Pattern f) : significand f p < 2 ^ (f.M + 1) := by
  have hm := mantf_lt f p
  rw [significand, pow_succ]
  split_ifs <;> omega

theorem magnitude_lt (f : Format) (p : Pattern f) : magnitude f p < 2 ^ (scale f p + (f.M + 1)) := by
  have hlt : (significand f p : ℚ) < 2 ^ (f.M + 1) := by exact_mod_cast significand_lt f p
  rw [magnitude, zpow_add₀ two_ne_zero, mul_comm (2 ^ scale f p)]
  exact mul_lt_mul_of_pos_right (by exact_mod_cast hlt) (by positivity)

/-- The implicit 1 of a Normal. -/
theorem le_magnitude {p : Pattern f} (he : expf f p ≠ 0) : 2 ^ (scale f p + f.M) ≤ magnitude f p := by
  have hle : (2 : ℚ) ^ f.M ≤ significand f p := by
    rw [significand_of_expf_ne_zero he]
    exact_mod_cast Nat.le_add_right _ _
  rw [magnitude, zpow_add₀ two_ne_zero, mul_comm (2 ^ scale f p), zpow_natCast]
  exact mul_le_mul_of_nonneg_right hle (by positivity)

/-- Below the smallest Subnormal there is Zero only. -/
theorem classify_zero_of_magnitude_lt {p : Pattern f} (h : magnitude f p < 2 ^ (1 - (f.B : ℤ) - f.M)) :
    classify f p = .zero := by
  have hunit : magnitude f p < 1 * 2 ^ scale f p := by
    rw [one_mul]
    exact h.trans_le (zpow_le_zpow_right₀ one_le_two (le_scale f p))
  have hn : significand f p = 0 := by
    have := lt_of_mul_lt_mul_right hunit (by positivity)
    exact Nat.lt_one_iff.1 (by exact_mod_cast this)
  rw [significand] at hn
  have hpow : 0 < 2 ^ f.M := by positivity
  rw [classify_zero_iff]
  split_ifs at hn with he
  · exact ⟨he, by omega⟩
  · omega

/-- If `v` is less than one unit of its scale above `q`, then no magnitude of the format lies above `q` and not above `v`:
one with a scale as large is a whole number of `q`'s units; one with a smaller scale lies below `q`'s implicit 1. -/
theorem magnitude_le_of_lt_succ {q r : Pattern f} {v : ℚ} (hv : v < (significand f q + 1) * 2 ^ scale f q)
    (hr : magnitude f r ≤ v) : magnitude f r ≤ magnitude f q := by
  obtain hscale | hscale := le_or_gt (scale f q) (scale f r)
  · obtain ⟨j, hj⟩ := Int.le.dest hscale
    have hunits : magnitude f r = (significand f r * 2 ^ j : ℕ) * 2 ^ scale f q := by
      rw [magnitude, ← hj, zpow_add₀ two_ne_zero, zpow_natCast]
      push_cast
      ring
    have hlt : ((significand f r * 2 ^ j : ℕ) : ℚ) < significand f q + 1 :=
      lt_of_mul_lt_mul_right (hunits ▸ hr.trans_lt hv) (by positivity)
    have hle : significand f r * 2 ^ j ≤ significand f q := Nat.le_of_lt_succ (by exact_mod_cast hlt)
    rw [hunits, magnitude]
    exact mul_le_mul_of_nonneg_right (by exact_mod_cast hle) (by positivity)
  · have he : expf f q ≠ 0 := by
      intro he
      have := le_scale f r
      rw [scale_of_expf_zero he] at hscale
      omega
    calc magnitude f r ≤ 2 ^ (scale f r + (f.M + 1)) := (magnitude_lt f r).le
      _ ≤ 2 ^ (scale f q + f.M) := zpow_le_zpow_right₀ one_le_two (by omega)
      _ ≤ magnitude f q := le_magnitude he

/-- Shifting `d` bits out of a significand and raising the scale by `d` rounds down by less than one unit. -/
theorem magnitude_bounds_of_shift {f g : Format} {p : Pattern f} {q : Pattern g} {d : ℕ}
    (hn : significand g q = significand f p >>> d) (hk : scale g q = scale f p + d) :
    magnitude g q ≤ magnitude f p ∧ magnitude f p < (significand g q + 1) * 2 ^ scale g q := by
  have hdiv := Nat.div_add_mod' (significand f p) (2 ^ d)
  have hmod := Nat.mod_lt (significand f p) (show 0 < 2 ^ d by positivity)
  rw [← Nat.shiftRight_eq_div_pow, ← hn] at hdiv
  have hle : (significand g q * 2 ^ d : ℚ) ≤ significand f p := by exact_mod_cast Nat.le.intro hdiv
  have hlt : (significand f p : ℚ) < (significand g q + 1) * 2 ^ d := by
    have : significand f p < (significand g q + 1) * 2 ^ d := by rw [Nat.succ_mul]; omega
    exact_mod_cast this
  rw [magnitude, magnitude, hk, add_comm (scale f p), zpow_add₀ two_ne_zero, zpow_natCast,
    ← mul_assoc, ← mul_assoc]
  exact ⟨mul_le_mul_of_nonneg_right hle (by positivity), mul_lt_mul_of_pos_right hlt (by positivity)⟩

/-- A finite magnitude reaches 2^(B′+1) exactly when its exponent, rebiased, reaches EMAX′. -/
theorem two_pow_le_magnitude_iff (g : Format) (p : Pattern f) :
    (2 : ℚ) ^ (g.B + 1) ≤ magnitude f p ↔ g.EMAX + f.B ≤ expf f p + g.B := by
  have hEMAX := g.EMAX_eq
  have hpos := f.B_pos
  rw [← zpow_natCast]
  constructor
  · intro hle
    by_contra hlt
    have hscale : scale f p + (f.M + 1) ≤ (g.B + 1 : ℕ) := by
      rw [scale]
      omega
    exact (hle.trans_lt (magnitude_lt f p)).not_ge (zpow_le_zpow_right₀ one_le_two hscale)
  · intro hle
    have he : expf f p ≠ 0 := by omega
    refine le_trans (zpow_le_zpow_right₀ one_le_two ?_) (le_magnitude he)
    rw [scale_of_expf_ne_zero he]
    omega

end Sys2Proof

namespace Sys2Proof.Machine

variable {sf df : Format} {p : Pattern sf}

theorem classify_narrow_of_overflow (hfin : expf sf p < sf.EMAX) (hover : df.EMAX + sf.B ≤ expf sf p + df.B) :
    classify df (narrow sf df p) = .infinite := by
  have hEMAX := df.EMAX_eq
  have hc : classify sf p = .normal := (classify_normal_iff sf p).2 ⟨by omega, hfin⟩
  exact (classify_infinite_iff df _).2 (narrow_fields_of_overflow hc hover)

/-- Where it does not overflow, narrowing gives a finite pattern by shifting the significand right and raising the scale as
much: over the difference of the mantissa widths, and further where the destination has Subnormals only. -/
theorem narrow_shifts (h : df.W < sf.W) (hfin : expf sf p < sf.EMAX) (hrange : expf sf p + df.B < df.EMAX + sf.B) :
    expf df (narrow sf df p) < df.EMAX ∧ ∃ d : ℕ,
      significand df (narrow sf df p) = significand sf p >>> d ∧ scale df (narrow sf df p) = scale sf p + d := by
  obtain ⟨-, hM, hB⟩ := Format.wider h
  have hEMAX := df.EMAX_eq
  obtain he | he := eq_or_ne (expf sf p) 0
  · obtain ⟨he', hm'⟩ := narrow_fields_of_expf_zero (df := df) he
    have hlost : mantf sf p < 2 ^ (sf.B + sf.M - df.B - df.M) :=
      (mantf_lt sf p).trans_le (Nat.pow_le_pow_right two_pos (by omega))
    refine ⟨by omega, sf.B + sf.M - df.B - df.M, ?_, ?_⟩
    · rw [significand_of_expf_zero he', significand_of_expf_zero he, hm', Nat.shiftRight_eq_zero _ _ hlost]
    · rw [scale_of_expf_zero he', scale_of_expf_zero he]
      omega
  have hc : classify sf p = .normal := (classify_normal_iff sf p).2 ⟨Nat.pos_of_ne_zero he, hfin⟩
  obtain hlow | hlow := le_or_gt (sf.B + 1) (expf sf p + df.B)
  · obtain ⟨he', hm'⟩ := narrow_fields_of_normal_range h hc hlow hrange
    have hpos : expf df (narrow sf df p) ≠ 0 := by omega
    have hlead : 2 ^ sf.M = 2 ^ (sf.M - df.M) * 2 ^ df.M := by rw [← pow_add, Nat.sub_add_cancel hM.le]
    refine ⟨by omega, sf.M - df.M, ?_, ?_⟩
    · rw [significand_of_expf_ne_zero hpos, significand_of_expf_ne_zero he, hm', Nat.shiftRight_eq_div_pow,
        Nat.shiftRight_eq_div_pow, hlead, Nat.mul_add_div (by positivity)]
    · rw [scale_of_expf_ne_zero hpos, scale_of_expf_ne_zero he, he']
      omega
  · obtain ⟨he', hm'⟩ := narrow_fields_of_low_range h hc hlow
    refine ⟨by omega, sf.M - df.M + (1 + sf.B - (expf sf p + df.B)), ?_, ?_⟩
    · rw [significand_of_expf_zero he', significand_of_expf_ne_zero he, hm']
    · rw [scale_of_expf_zero he', scale_of_expf_ne_zero he]
      omega

/-- Below overflow the result is finite and its magnitude the largest that does not exceed the operand's. -/
theorem narrow_rounds_down (h : df.W < sf.W) (hfin : expf sf p < sf.EMAX) (hlt : magnitude sf p < 2 ^ (df.B + 1)) :
    expf df (narrow sf df p) < df.EMAX ∧ magnitude df (narrow sf df p) ≤ magnitude sf p ∧
      ∀ r : Pattern df, magnitude df r ≤ magnitude sf p → magnitude df r ≤ magnitude df (narrow sf df p) := by
  rw [← not_le, two_pow_le_magnitude_iff, not_le] at hlt
  obtain ⟨hfin', d, hn, hk⟩ := narrow_shifts h hfin hlt
  obtain ⟨hle, hsucc⟩ := magnitude_bounds_of_shift hn hk
  exact ⟨hfin', hle, fun r hr => magnitude_le_of_lt_succ hsucc hr⟩

/-- The smallest Subnormal of a format is below its overflow bound. -/
theorem two_pow_floor_le_overflow (f : Format) : (2 : ℚ) ^ (1 - (f.B : ℤ) - f.M) ≤ 2 ^ (f.B + 1) := by
  rw [← zpow_natCast]
  exact zpow_le_zpow_right₀ one_le_two (by omega)

/-- Settles O32: overflow is `two_pow_le_magnitude_iff`, everything below it `narrow_rounds_down`. -/
theorem narrowingRoundsTowardZero : Obligations.NarrowingRoundsTowardZero := by
  unfold Obligations.NarrowingRoundsTowardZero
  intro sf df s v h hlen hv
  obtain ⟨t, ht, hresult⟩ := exists_exec_cvt_result sf df hlen
  have hfin := expf_lt_of_value hv
  refine ⟨t, ht, ?_⟩
  rw [hresult, convert_of_narrower h, abs_eq_magnitude_of_value hv]
  refine ⟨sign_narrow .., fun hover => ?_, fun hlt => ?_, fun hlt => ?_⟩
  · exact classify_narrow_of_overflow hfin ((two_pow_le_magnitude_iff df _).1 hover)
  · obtain ⟨hfin', hle, hlargest⟩ := narrow_rounds_down h hfin hlt
    have hw := value_eq_magnitude hfin'
    refine ⟨_, hw, ?_, fun r u hu => ?_⟩
    · rwa [abs_eq_magnitude_of_value hw]
    · rw [abs_eq_magnitude_of_value hw, abs_eq_magnitude_of_value hu]
      exact hlargest r
  · obtain ⟨-, hle, -⟩ := narrow_rounds_down h hfin (hlt.trans_le (two_pow_floor_le_overflow df))
    exact classify_zero_of_magnitude_lt (hle.trans_lt hlt)

end Sys2Proof.Machine
end

section
/-! `NEG` (43_negate.md R150 to R152). Only the top bit of the pattern is inverted: the fields below it stay, so a value
keeps its magnitude, and inverting twice changes nothing. -/

namespace Sys2Proof.Machine

/-- Any bits below the top one are copied. -/
theorem extractLsb'_negate {f : Format} {lo len : Nat} (h : lo + len < f.W) (p : Pattern f) :
    (negate f p).extractLsb' lo len = p.extractLsb' lo len := by
  have htop : (BitVec.twoPow f.W (f.W - 1)).extractLsb' lo len = 0#len := by
    ext i hi
    have hne : f.W - 1 ≠ lo + i := by omega
    simp [BitVec.getLsbD_twoPow, hne]
  rw [negate, BitVec.extractLsb'_xor, htop, BitVec.xor_zero]

@[simp] theorem sign_negate (f : Format) (p : Pattern f) : sign f (negate f p) = !sign f p := by
  have hlt : f.W - 1 < f.W := by rw [f.W_eq]; omega
  simp [sign, negate, hlt]

@[simp] theorem expf_negate (f : Format) (p : Pattern f) : expf f (negate f p) = expf f p := by
  rw [expf, expf, extractLsb'_negate (by rw [f.W_eq]; omega)]

@[simp] theorem mantf_negate (f : Format) (p : Pattern f) : mantf f (negate f p) = mantf f p := by
  rw [mantf, mantf, extractLsb'_negate (by rw [f.W_eq]; omega)]

@[simp] theorem negate_negate (f : Format) (p : Pattern f) : negate f (negate f p) = p := by
  rw [negate, negate, BitVec.xor_assoc, BitVec.xor_self, BitVec.xor_zero]

/-- The sign tells a pattern from its negation, Zero among them. -/
theorem negate_ne_self (f : Format) (p : Pattern f) : negate f p ≠ p := by
  intro h
  have hsign : (!sign f p) = sign f p := by rw [← sign_negate, h]
  exact Bool.not_ne_self _ hsign

theorem signFactor_not (s : Bool) : signFactor (!s) = -signFactor s := by cases s <;> simp [signFactor]

@[simp] theorem magnitude_negate (f : Format) (p : Pattern f) : magnitude f (negate f p) = magnitude f p := by
  rw [magnitude, magnitude, significand, significand, scale, scale, expf_negate, mantf_negate]

/-- The sign factor is inverted and the magnitude stays. -/
theorem value_negate {f : Format} {p : Pattern f} {v : ℚ} (h : value f p = some v) :
    value f (negate f p) = some (-v) := by
  have hfin : expf f p < f.EMAX := expf_lt_of_value h
  have hfin' : expf f (negate f p) < f.EMAX := by rwa [expf_negate]
  rw [value_eq_magnitude hfin, Option.some.injEq] at h
  rw [value_eq_magnitude hfin', sign_negate, magnitude_negate, signFactor_not, neg_mul, h]

/-- `NEG` of an operand of the right length. -/
theorem neg_of_length {f : Format} {q : RequestPorts} (h : q.aLen.toNat = f.NB) :
    neg f q = .ok (ResponsePorts.accepted.withResult f (negate f (q.aData.setWidth f.W))) := by
  rw [neg, onOperand_of_length _ h]

/-- `NEG` of an operand of the right length answers with the negated pattern. -/
theorem exec_neg_of_length {f : Format} {s : State} (h : s.req.aLen.toNat = f.NB) :
    exec (Op.neg f).instr s =
      .next (s.drive (ResponsePorts.accepted.withResult f (negate f (s.req.aData.setWidth f.W)))) := by
  rw [exec_instr, perform, neg_of_length h, answer_eq, responseOf_ok]

/-- The host reads that pattern off the result buffer. -/
theorem exists_exec_neg_result (f : Format) {s : State} (h : s.req.aLen.toNat = f.NB) :
    ∃ t, exec (Op.neg f).instr s = .next t ∧ t.result f = negate f (s.pattern f) :=
  ⟨_, exec_neg_of_length h, drive_withResult_result ..⟩

/-- Settles O39: `value_negate` is the value, and the sign bit tells the patterns apart. -/
theorem negNegatesValue : Obligations.NegNegatesValue := by
  unfold Obligations.NegNegatesValue
  intro f s v hlen hv
  obtain ⟨t, ht, hresult⟩ := exists_exec_neg_result f hlen
  exact ⟨t, ht, by rw [hresult, value_negate hv], by rw [hresult]; exact negate_ne_self f _⟩

/-- The host can write a `NEG` line with an operand buffer of the format's length. -/
theorem assemble_neg_of_length {f : Format} {bs : List Byte} (h : bs.length = f.NB) (env : Collected) :
    assemble env (.neg f (.bytes bs)) = some ((RequestPorts.command (encode (Op.neg f).instr)).withBuffer bs) := by
  have hle : bs.length ≤ 63 := by have := f.NB_lt; omega
  rw [assemble, BufferArg.load, if_pos hle]

/-- The host can copy the result buffer of any collected response into the operand buffer of a `NEG` line. -/
theorem assemble_neg_of_lookup {env : Collected} {k : Nat} {r : ResponsePorts} (h : env.lookup k = some r) (f : Format) :
    assemble env (.neg f (.resultOf k)) =
      some { RequestPorts.command (encode (Op.neg f).instr) with aLen := r.rLen, aData := r.rData } := by
  rw [assemble, BufferArg.load, h, Option.map_some]

/-- The block's response to a `NEG` request with an operand of the right length. -/
theorem respond_neg {f : Format} {q : RequestPorts} (hvalid : q.reqValid = true) (hcmd : q.cmd = encode (Op.neg f).instr)
    (hlen : q.aLen.toNat = f.NB) :
    respond q = ResponsePorts.accepted.withResult f (negate f (q.aData.setWidth f.W)) := by
  rw [respond_of_encode hvalid hcmd, perform, neg_of_length hlen, responseOf_ok]

/-- Settles O38: the script's second line negates the pattern its first line answered, and `negate_negate` gives the
operand back. -/
theorem negTwiceIsIdentity : Obligations.NegTwiceIsIdentity := by
  unfold Obligations.NegTwiceIsIdentity
  intro f bs hlen
  set q := (RequestPorts.command (encode (Op.neg f).instr)).withBuffer bs with hq
  set p : Pattern f := q.aData.setWidth f.W
  set r₁ := ResponsePorts.accepted.withResult f (negate f p) with hr₁
  have hfirst : respond q = r₁ := respond_neg rfl rfl (withBuffer_aLen_toNat hlen _)
  have hsecond : respond { RequestPorts.command (encode (Op.neg f).instr) with aLen := r₁.rLen, aData := r₁.rData } =
      ResponsePorts.accepted.withResult f p := by
    rw [respond_neg rfl rfl f.toNat_ofNat_NB, hr₁, withResult_rData_setWidth, negate_negate]
  have hrun : runScript [(1, .neg f (.bytes bs)), (2, .neg f (.resultOf 1))] [] =
      some [(2, ResponsePorts.accepted.withResult f p), (1, r₁)] := by
    rw [runScript_cons (assemble_neg_of_length hlen []), ← hq, hfirst, runScript_cons (assemble_neg_of_lookup rfl f),
      hsecond, runScript]
  refine ⟨_, _, hrun, rfl, f.toNat_ofNat_NB, ?_⟩
  rw [withResult_rData_toNat, withBuffer_pattern_toNat hlen]

end Sys2Proof.Machine
end

section
/-! Errors (60_exceptions.md R160 to R165): which requests each error answers, and what its response holds. -/

namespace Sys2Proof

/-- A word that decodes to an instruction is the word the table of 30_encoding.md R61 gives it: one of the 60. -/
theorem encode_of_decode {w : CommandWord} {i : Instr} (h : decode w = .ok i) : encode i = w := by
  have hwords : ∀ w ∈ legalWords, (decode w).toOption.map encode = some w := by
    rw [legalWords, Finset.forall_mem_union, Finset.forall_mem_image, Finset.forall_mem_image]
    exact ⟨by decide, by decide⟩
  have hlegal : w ∈ legalWords := by
    rw [mem_legalWords_iff, ← Bool.not_eq_false, ← exists_decode_error_iff, h]
    rintro ⟨e, he⟩
    nomatch he
  simpa [h, Except.toOption] using hwords w hlegal

end Sys2Proof

namespace Sys2Proof.Machine

section
variable {f g : Format} {o : Op} (ho : o ∈ [Op.unpack f, Op.classify f, Op.cvt f g, Op.neg f])
include ho

/-- The four operations that take an operand buffer of format `f` read it through the length check, and raise nothing after
it (60_exceptions.md R162). -/
theorem exists_perform_eq_onOperand :
    ∃ k : Pattern f → ResponsePorts, (∀ p, (k p).err = 0) ∧ ∀ q, perform o q = onOperand f q k := by
  simp only [List.mem_cons, List.not_mem_nil, or_false] at ho
  obtain rfl | rfl | rfl | rfl := ho <;> exact ⟨_, fun _ => rfl, fun _ => rfl⟩

theorem perform_of_wrong_length {q : RequestPorts} (h : q.aLen.toNat ≠ f.NB) : perform o q = .error .lengthError := by
  obtain ⟨k, -, hk⟩ := exists_perform_eq_onOperand ho
  rw [hk, onOperand_of_wrong_length k h]

theorem err_perform_of_length {q : RequestPorts} (h : q.aLen.toNat = f.NB) : (responseOf (perform o q)).err = 0 := by
  obtain ⟨k, herr, hk⟩ := exists_perform_eq_onOperand ho
  rw [hk, onOperand_of_length k h, responseOf_ok, herr]

/-- An operation on an operand buffer ends in success or in `LengthError`. -/
theorem err_perform_of_takesBuffer (q : RequestPorts) :
    (responseOf (perform o q)).err = 0 ∨ (responseOf (perform o q)).err = 2 := by
  by_cases h : q.aLen.toNat = f.NB
  · exact .inl (err_perform_of_length ho h)
  · rw [perform_of_wrong_length ho h]
    exact .inr rfl

end

/-- `PACK` ends in success or in `FieldError`. -/
theorem err_pack (f : Format) (q : RequestPorts) : (responseOf (pack f q)).err = 0 ∨ (responseOf (pack f q)).err = 3 :=
  responseOf_pack (P := fun r => r.err = 0 ∨ r.err = 3) (.inr rfl) (fun _ => .inl rfl) q

/-- No operation raises `IllegalCommand` (60_exceptions.md R161): that is the decoder's. -/
theorem err_perform_ne_illegalCommand (o : Op) (q : RequestPorts) : (responseOf (perform o q)).err ≠ 1 := by
  have hbuffer {f g : Format} {o : Op} (ho : o ∈ [Op.unpack f, Op.classify f, Op.cvt f g, Op.neg f]) :
      (responseOf (perform o q)).err ≠ 1 := by
    obtain h | h := err_perform_of_takesBuffer ho q <;> simp [h]
  cases o with
  | unpack f => exact hbuffer (f := f) (g := f) (by simp)
  | pack f => obtain h | h := err_pack f q <;> simp [perform, h]
  | classify f => exact hbuffer (f := f) (g := f) (by simp)
  | cvt sf df => exact hbuffer (f := sf) (g := df) (by simp)
  | neg f => exact hbuffer (f := f) (g := f) (by simp)

/-- Every instruction completes with its operation's response. -/
theorem exec_instr_eq_next (o : Op) (s : State) : exec o.instr s = .next (s.drive (responseOf (perform o s.req))) := by
  rw [exec_instr, answer_eq]

/-- An instruction whose operation ends in an error, as the whole next state. -/
theorem exec_of_perform_error {o : Op} {s : State} {e : ErrorCode} (h : perform o s.req = .error e) :
    exec o.instr s = .next ⟨s.req, errorResponse e.code⟩ := by
  rw [exec_instr_eq_next, h, responseOf_error, raise_eq_errorResponse]
  rfl

/-- Settles O11: a word that does not decode is raised before any operation, and no operation raises that error. -/
theorem illegalCommandDependsOnWordOnly : Obligations.IllegalCommandDependsOnWordOnly := by
  unfold Obligations.IllegalCommandDependsOnWordOnly
  intro s hvalid
  cases hdecode : decode s.req.cmd with
  | error e =>
    refine ⟨_, step_of_illegal hvalid hdecode, iff_of_true rfl fun i hi => ?_⟩
    rw [← hi, decode_encode] at hdecode
    nomatch hdecode
  | ok i =>
    refine ⟨_, step_of_legal hvalid hdecode, iff_of_false (err_perform_ne_illegalCommand _ _) fun h => ?_⟩
    exact h i (encode_of_decode hdecode)

/-- Settles O12: the four operations end in `LengthError` exactly when the length check fails, and `PACK` makes no length
check. -/
theorem lengthErrorExactlyOnWrongLength : Obligations.LengthErrorExactlyOnWrongLength := by
  unfold Obligations.LengthErrorExactlyOnWrongLength
  refine ⟨fun f g s o ho => ⟨fun h => ?_, fun h => ?_⟩, fun f s => ⟨_, exec_instr_eq_next _ s, ?_⟩⟩
  · exact exec_of_perform_error (perform_of_wrong_length ho h)
  · exact ⟨_, exec_instr_eq_next o s, err_perform_of_length ho h⟩
  · obtain h | h := err_pack f s.req <;> simp [perform, h]

/-- Settles O13: `PACK` ends in `FieldError` exactly when its range check fails, and no other operation makes one. -/
theorem fieldErrorExactlyOnWideField : Obligations.FieldErrorExactlyOnWideField := by
  unfold Obligations.FieldErrorExactlyOnWideField
  refine ⟨fun f s => ⟨fun h => ?_, fun h => ?_⟩, fun f g s o ho => ⟨_, exec_instr_eq_next o s, ?_⟩⟩
  · exact exec_of_perform_error (o := .pack f) (pack_of_overflow h)
  · obtain ⟨he, hm⟩ := not_or.mp h
    refine ⟨_, exec_instr_eq_next _ s, ?_⟩
    rw [State.drive_rsp, perform, pack_of_range (Nat.le_of_not_lt he) (Nat.lt_of_not_le hm)]
    rfl
  · obtain h | h := err_perform_of_takesBuffer ho s.req <;> simp [h]

/-- The response a step leaves on the ports, if an error, holds its code and nothing else, whoever raised it. -/
theorem errorIsBare_of_step {s t : State} (h : step s = .next t) : t.rsp.err ≠ 0 → t.rsp = errorResponse t.rsp.err := by
  cases hvalid : s.req.reqValid with
  | false =>
    rw [step_of_idle hvalid] at h
    obtain rfl := Host.Outcome.next.inj h
    exact fun herr => absurd rfl herr
  | true =>
    cases hdecode : decode s.req.cmd with
    | error e =>
      rw [step_of_illegal hvalid hdecode] at h
      obtain rfl := Host.Outcome.next.inj h
      exact fun _ => raise_eq_errorResponse _
    | ok i =>
      rw [step_of_legal hvalid hdecode, answer_eq] at h
      obtain rfl := Host.Outcome.next.inj h
      exact (framedBy_perform i.op s.req).bareError

/-- The empty buffer has the length of no format. -/
theorem zero_toNat_ne_NB (f : Format) : (0 : LenPort).toNat ≠ f.NB := by cases f <;> decide

/-- Settles O14: the bare response has `r_len` = 0, which as `a_len` fails every length check. -/
theorem errorResponseIsBareAndNotReusable : Obligations.ErrorResponseIsBareAndNotReusable := by
  unfold Obligations.ErrorResponseIsBareAndNotReusable
  refine ⟨fun s t hstep herr => ?_, fun s t f g hstep herr o ho => ?_⟩
  · rw [errorIsBare_of_step hstep herr]
    exact ⟨rfl, rfl, rfl, rfl, rfl, rfl, rfl, rfl, rfl⟩
  · have hlen : (t.presentResult (encode o.instr)).req.aLen.toNat ≠ f.NB := by
      rw [State.presentResult_aLen, errorIsBare_of_step hstep herr]
      exact zero_toNat_ne_NB f
    have hrun := step_of_encode (State.presentResult_reqValid t _) (State.presentResult_cmd t (encode o.instr))
    exact ⟨_, hrun.trans (exec_of_perform_error (perform_of_wrong_length ho hlen)), rfl⟩

end Sys2Proof.Machine
end

section
/-! Command words (30_encoding.md R55 to R62). -/

namespace Sys2Proof

/-- Settles O2: `encode_of_decode` and `decode_encode` are the two directions. -/
theorem decodeIsInverseOfEncode : Obligations.DecodeIsInverseOfEncode := by
  unfold Obligations.DecodeIsInverseOfEncode
  intro w i
  constructor
  · exact encode_of_decode
  · rintro rfl
    exact Machine.decode_encode i

/-- Settles O1: nine closed words, decoded. -/
theorem decodeReadsWrittenOutWords : Obligations.DecodeReadsWrittenOutWords := by
  unfold Obligations.DecodeReadsWrittenOutWords
  decide

/-- Settles O3, row by row of the table. -/
theorem encodingIsOpPlusFormatFields : Obligations.EncodingIsOpPlusFormatFields := by
  unfold Obligations.EncodingIsOpPlusFormatFields
  intro f g
  refine ⟨?_, ?_, ?_, ?_, ?_⟩
  case refine_4 => cases f <;> cases g <;> rfl
  all_goals cases f <;> rfl

end Sys2Proof
end

section
/-! Every answer of the block (10_state.md R29, R31, R32, 20_memory.md R46): a step drives `respond` of the request on
the ports and changes nothing else, so what a step promises is said once, of `respond`. -/

namespace Sys2Proof.Machine

theorem respond_of_idle {q : RequestPorts} (h : q.reqValid = false) : respond q = .idle := by
  rw [respond, step_of_idle (s := State.reset.present q) h]
  rfl

theorem respond_of_illegal {q : RequestPorts} {e : IllegalReason} (h : q.reqValid = true)
    (hd : decode q.cmd = .error e) : respond q = raise .illegalCommand := by
  rw [respond, step_of_illegal (s := State.reset.present q) h hd]
  rfl

theorem respond_of_legal {q : RequestPorts} {i : Instr} (h : q.reqValid = true) (hd : decode q.cmd = .ok i) :
    respond q = responseOf (perform i.op q) := by
  rw [respond, step_of_legal (s := State.reset.present q) h hd]
  rfl

/-- A step reads the request ports alone and writes the response ports alone. -/
theorem step_eq_drive_respond (s : State) : step s = .next (s.drive (respond s.req)) := by
  cases hvalid : s.req.reqValid with
  | false => rw [step_of_idle hvalid, respond_of_idle hvalid]
  | true =>
    cases hdecode : decode s.req.cmd with
    | error e => rw [step_of_illegal hvalid hdecode, respond_of_illegal hvalid hdecode]
    | ok i => rw [step_of_legal hvalid hdecode, respond_of_legal hvalid hdecode, answer_eq]

/-- What holds of the idle response, of `IllegalCommand` and of every operation's response holds of every response. -/
theorem respond_cases {P : ResponsePorts → Prop} {q : RequestPorts} (hidle : q.reqValid = false → P .idle)
    (hillegal : q.reqValid = true → P (raise .illegalCommand))
    (hperform : q.reqValid = true → ∀ o, P (responseOf (perform o q))) : P (respond q) := by
  cases hvalid : q.reqValid with
  | false =>
    rw [respond_of_idle hvalid]
    exact hidle hvalid
  | true =>
    cases hdecode : decode q.cmd with
    | error e =>
      rw [respond_of_illegal hvalid hdecode]
      exact hillegal hvalid
    | ok i =>
      rw [respond_of_legal hvalid hdecode]
      exact hperform hvalid i.op

/-- A response is shown exactly when there is a request (10_state.md R32). -/
theorem respond_rspValid (q : RequestPorts) : (respond q).rspValid = q.reqValid :=
  respond_cases (P := fun r => r.rspValid = q.reqValid) (fun h => h.symm) (fun h => h.symm)
    (fun h o => (framedBy_perform o q).answered.trans h.symm)

/-- Settles O7: the next state is the one `step_eq_drive_respond` names. -/
theorem everyRequestIsAnswered : Obligations.EveryRequestIsAnswered := by
  unfold Obligations.EveryRequestIsAnswered
  exact fun s => ⟨_, step_eq_drive_respond s, State.drive_req .., respond_rspValid s.req⟩

/-- Settles O8, by induction on the requests: each step drives `respond` of its own, and goes on from whatever state. -/
theorem responsesDependOnOwnRequestOnly : Obligations.ResponsesDependOnOwnRequestOnly := by
  unfold Obligations.ResponsesDependOnOwnRequestOnly
  intro qs
  induction qs with
  | nil => exact fun s => ⟨s, rfl⟩
  | cons q qs ih =>
    intro s
    obtain ⟨t, ht⟩ := ih ((s.present q).drive (respond q))
    refine ⟨t, ?_⟩
    simp only [serve, step_eq_drive_respond, State.present_req, ht, State.drive_rsp, List.map_cons]

/-- Settles O6: the idle response, written out. -/
theorem noRequestGivesIdleResponse : Obligations.NoRequestGivesIdleResponse := by
  unfold Obligations.NoRequestGivesIdleResponse
  intro s hvalid
  rw [step_of_idle hvalid]
  rfl

/-- Settles O5: `step_of_legal`, and the word of an instruction fits the 16 bits that `withFetchWord` keeps. -/
theorem stepRunsDecodedInstruction : Obligations.StepRunsDecodedInstruction := by
  unfold Obligations.StepRunsDecodedInstruction
  refine ⟨fun s i hvalid hdecode => ?_, fun s i => ?_⟩
  · rw [step_of_legal hvalid hdecode, exec_eq_perform]
  · have hcmd : (s.withFetchWord 16 (encode i).toNat).req.cmd = encode i := by
      rw [State.withFetchWord_cmd, Nat.mod_eq_of_lt (encode i).isLt, BitVec.ofNat_toNat, BitVec.setWidth_eq]
    exact step_of_encode (State.withFetchWord_reqValid ..) hcmd

end Sys2Proof.Machine
end

section
/-! The invariant of the response ports (10_state.md R28, R30, R31, 41_classify.md R101, R102, R104, 60_exceptions.md
R165). -/

namespace Sys2Proof

/-- The number of bytes of a format is one of six. -/
theorem Format.NB_mem (f : Format) : f.NB ∈ [1, 2, 4, 8, 16, 32] := by cases f <;> decide

/-- Only a finite value is an integer (41_classify.md R104). -/
theorem isFinite_of_isInteger {f : Format} {p : Pattern f} (h : isInteger f p = true) : isFinite f p = true := by
  obtain ⟨z, hz⟩ := (isInteger_iff_exists_int f p).1 h
  rw [← value_isSome_iff, hz]
  rfl

end Sys2Proof

namespace Sys2Proof.Machine

theorem legal_idle : ResponsePorts.idle.Legal := by decide

theorem legal_raise (e : ErrorCode) : (raise e).Legal := by cases e <;> decide

/-- A result buffer with a class that agrees is legal, whatever the ports of `UNPACK` hold. -/
theorem legal_of_result {r : ResponsePorts} {f : Format} {p : Pattern f} (hvalid : r.rspValid = true) (herr : r.err = 0)
    (hlen : r.rLen = BitVec.ofNat 6 f.NB) (hdata : r.rData = p.setWidth 256) (hclass : r.ClassAgrees) : r.Legal := by
  refine ⟨fun h => absurd hvalid (by simp [h]), fun h => absurd herr h, fun _ _ => ?_, hclass⟩
  rw [hlen, hdata, f.toNat_ofNat_NB, f.eight_mul_NB, BitVec.toNat_setWidth_of_le f.W_le]
  exact ⟨f.NB_mem, p.isLt⟩

/-- The class ports of a response that does not drive them. -/
theorem classAgrees_idle : ResponsePorts.idle.ClassAgrees := by decide

/-- The class ports `CLASS` drives agree (41_classify.md R101, R102, R104). -/
theorem classAgrees_classify {r : ResponsePorts} {f : Format} {p : Pattern f} (hcls : r.oCls = (classify f p).code)
    (hfin : r.oFin = isFinite f p) (hint : r.oInt = isInteger f p) : r.ClassAgrees := by
  refine ⟨?_, ?_, ?_⟩
  · rw [hcls]
    cases classify f p <;> decide
  · rw [hcls, hfin, isFinite]
    cases classify f p <;> decide
  · rw [hint, hfin]
    exact isFinite_of_isInteger

theorem legal_withResult (f : Format) (p : Pattern f) : (ResponsePorts.accepted.withResult f p).Legal :=
  legal_of_result (p := p) rfl rfl rfl rfl classAgrees_idle

/-- Every operation's response is legal. -/
theorem legal_perform (o : Op) (q : RequestPorts) : (responseOf (perform o q)).Legal := by
  cases o with
  | unpack f =>
    refine responseOf_onOperand (legal_raise _) (fun p => ?_) q
    exact legal_of_result (p := p) rfl rfl rfl rfl classAgrees_idle
  | pack f => exact responseOf_pack (legal_raise _) (legal_withResult f) q
  | classify f =>
    refine responseOf_onOperand (legal_raise _) (fun p => ?_) q
    exact legal_of_result (p := p) rfl rfl rfl rfl (classAgrees_classify (p := p) rfl rfl rfl)
  | cvt sf df => exact responseOf_onOperand (legal_raise _) (fun _ => legal_withResult df _) q
  | neg f => exact responseOf_onOperand (legal_raise _) (fun _ => legal_withResult f _) q

theorem legal_respond (q : RequestPorts) : (respond q).Legal :=
  respond_cases (fun _ => legal_idle) (fun _ => legal_raise _) (fun _ o => legal_perform o q)

/-- Settles O40: a step drives `respond` of its request, which is legal whatever the state before. -/
theorem stepEstablishesLegalResponse : Obligations.StepEstablishesLegalResponse := by
  unfold Obligations.StepEstablishesLegalResponse
  intro s t h
  rw [step_eq_drive_respond] at h
  obtain rfl := Host.Outcome.next.inj h
  exact legal_respond s.req

/-- Settles O41: the reset state is the idle state, and the step without a request drives what it already shows. -/
theorem resetShowsIdleResponse : Obligations.ResetShowsIdleResponse := by
  unfold Obligations.ResetShowsIdleResponse
  exact ⟨rfl, rfl, legal_idle, step_of_idle rfl⟩

end Sys2Proof.Machine
end

section
/-! The request ports a response does not depend on (10_state.md R27, R29). -/

namespace Sys2Proof.Machine

variable {q q' : RequestPorts}

/-- The bits of the bus above the buffer are not part of the pattern (10_state.md R27). -/
theorem onOperand_congr {f : Format} {k : Pattern f → ResponsePorts} (hlen : q.aLen = q'.aLen)
    (hbits : q.aData.toNat % 2 ^ (8 * q.aLen.toNat) = q'.aData.toNat % 2 ^ (8 * q.aLen.toNat)) :
    onOperand f q k = onOperand f q' k := by
  by_cases h : q.aLen.toNat = f.NB
  · have hpattern : q.aData.setWidth f.W = q'.aData.setWidth f.W := by
      apply BitVec.eq_of_toNat_eq
      rwa [BitVec.toNat_setWidth, BitVec.toNat_setWidth, ← f.eight_mul_NB, ← h]
    rw [onOperand_of_length k h, onOperand_of_length k (hlen ▸ h), hpattern]
  · rw [onOperand_of_wrong_length k h, onOperand_of_wrong_length k (hlen ▸ h)]

/-- An operation that is no `PACK` reads the operand buffer alone. -/
theorem perform_congr_operand {o : Op} (hpack : ¬ ∃ f, o = .pack f) (hlen : q.aLen = q'.aLen)
    (hbits : q.aData.toNat % 2 ^ (8 * q.aLen.toNat) = q'.aData.toNat % 2 ^ (8 * q.aLen.toNat)) :
    perform o q = perform o q' := by
  cases o with
  | pack f => exact absurd ⟨f, rfl⟩ hpack
  | unpack f | classify f | cvt sf df | neg f => exact onOperand_congr hlen hbits

/-- `PACK` reads the pack ports alone. -/
theorem pack_congr (f : Format) (hsign : q.fSign = q'.fSign) (hexp : q.fExp = q'.fExp) (hmant : q.fMant = q'.fMant) :
    pack f q = pack f q' := by
  rw [pack, pack, hsign, hexp, hmant]

/-- Two requests with one command word have one response if its operation answers both alike. -/
theorem respond_congr (hvalid : q.reqValid = q'.reqValid) (hcmd : q.cmd = q'.cmd)
    (hperform : ∀ o : Op, decode q.cmd = .ok o.instr → perform o q = perform o q') : respond q = respond q' := by
  cases hv : q.reqValid with
  | false => rw [respond_of_idle hv, respond_of_idle (hvalid ▸ hv)]
  | true =>
    cases hd : decode q.cmd with
    | error e => rw [respond_of_illegal hv hd, respond_of_illegal (hvalid ▸ hv) (hcmd ▸ hd)]
    | ok i =>
      have hi : perform i.op q = perform i.op q' := hperform i.op (by rw [hd, Instr.instr_op])
      rw [respond_of_legal hv hd, respond_of_legal (hvalid ▸ hv) (hcmd ▸ hd), hi]

theorem exists_steps_of_respond_eq {s s' : State} (h : respond s.req = respond s'.req) :
    ∃ t t', step s = .next t ∧ step s' = .next t' ∧ t.rsp = t'.rsp :=
  ⟨_, _, step_eq_drive_respond s, step_eq_drive_respond s', h⟩

/-- Settles O9: the operation of the shared command word reads the ports that agree. -/
theorem unreadRequestPortsAreIgnored : Obligations.UnreadRequestPortsAreIgnored := by
  unfold Obligations.UnreadRequestPortsAreIgnored
  refine fun s s' hvalid hcmd => ⟨?_, fun hpack hlen hdata => ?_⟩
  · rintro ⟨f, hf⟩ hsign hexp hmant
    refine exists_steps_of_respond_eq (respond_congr hvalid hcmd fun o ho => ?_)
    obtain rfl : o = .pack f := by
      rw [hf, Except.ok.injEq] at ho
      rw [← Op.op_instr o, ← ho, Op.op_instr]
    exact pack_congr f hsign hexp hmant
  · refine exists_steps_of_respond_eq (respond_congr hvalid hcmd fun o ho => ?_)
    exact perform_congr_operand (fun ⟨f, hf⟩ => hpack ⟨f, hf ▸ ho⟩) hlen (by rw [hdata])

/-- Settles O10: `PACK` does not read `a_data`, and the other operations only its bits below the buffer's end. -/
theorem bitsAboveBufferAreIgnored : Obligations.BitsAboveBufferAreIgnored := by
  unfold Obligations.BitsAboveBufferAreIgnored
  intro s d hbits
  refine exists_steps_of_respond_eq (respond_congr rfl rfl fun o _ => ?_)
  by_cases hpack : ∃ f, o = .pack f
  · obtain ⟨f, rfl⟩ := hpack
    exact pack_congr f rfl rfl rfl
  · exact perform_congr_operand hpack rfl hbits.symm

end Sys2Proof.Machine
end

section
/-! `PACK`, `CLASS` and `NEG` on the ports, as the numbers the statements write out (40_codec.md R85, R88,
41_classify.md R100 to R106, 43_negate.md R150). -/

namespace Sys2Proof

/-- A number of E bits is an exponent field in range. -/
theorem le_EMAX_of_lt {f : Format} {e : Nat} (h : e < 2 ^ f.E) : e ≤ f.EMAX := by
  rw [f.two_pow_E] at h
  omega

/-- The class code of the table of R100, on the pattern's number. -/
theorem classify_code (f : Format) (p : Pattern f) :
    (classify f p).code = BitVec.ofNat 3 (Raw.classCode f p.toNat) := by
  rw [classify, Raw.classCode, raw_expf, raw_mantf, quietBit_eq, Format.EMAX]
  simp only [decide_eq_true_eq, apply_ite FpClass.code, apply_ite (BitVec.ofNat 3)]
  rfl

/-- The finite patterns are those below the largest exponent field (41_classify.md R102). -/
theorem isFinite_eq_decide (f : Format) (p : Pattern f) :
    isFinite f p = decide (Raw.expf f p.toNat < 2 ^ f.E - 1) := by
  rw [raw_expf, ← Format.EMAX, Bool.eq_iff_iff, decide_eq_true_iff, isFinite_iff_expf_lt]

/-- The integer test of R105 for a Normal, with e − B compared on natural numbers. -/
theorem normalIsInteger_iff (f : Format) (e m : Nat) : normalIsInteger f ((e : ℤ) - f.B) m = true ↔
    f.B + f.M ≤ e ∨ (f.B ≤ e ∧ m % 2 ^ (f.B + f.M - e) = 0) := by
  have hshift : ((f.M : ℤ) - ((e : ℤ) - f.B)).toNat = f.B + f.M - e := by omega
  rw [normalIsInteger, hshift]
  split_ifs with hhigh hlow
  · exact iff_of_true rfl (.inl (by omega))
  · exact iff_of_false not_false (by omega)
  · rw [beq_iff_eq]
    omega

/-- The integer test of R105, on the pattern's number: only Zero and some Normals pass. -/
theorem isInteger_eq_raw (f : Format) (p : Pattern f) : isInteger f p = Raw.isInteger f p.toNat := by
  rw [Raw.isInteger, raw_expf, raw_mantf, Bool.eq_iff_iff, decide_eq_true_iff, ← Format.EMAX, ← classify_zero_iff,
    ← and_assoc, ← classify_normal_iff, ← normalIsInteger_iff, isInteger]
  cases classify f p <;> simp

end Sys2Proof

namespace Sys2Proof.Machine

/-- `PACK` of fields in range answers with the packed pattern. -/
theorem exec_pack_of_range {f : Format} {s : State} (he : s.req.fExp.toNat ≤ f.EMAX)
    (hm : s.req.fMant.toNat < 2 ^ f.M) :
    exec (Op.pack f).instr s = .next (s.drive
      (ResponsePorts.accepted.withResult f (mk f s.req.fSign s.req.fExp.toNat s.req.fMant.toNat))) := by
  rw [exec_instr_eq_next, perform, pack_of_range he hm, responseOf_ok]

/-- Settles O18: the packed pattern's number is `mk_toNat`. -/
theorem packAssemblesFields : Obligations.PackAssemblesFields := by
  unfold Obligations.PackAssemblesFields
  intro f s he hm
  have he := le_EMAX_of_lt he
  rw [exec_pack_of_range he hm, accepted_withResult, mk_toNat f _ he hm]
  rfl

/-- Settles O21: the second step unpacks the pattern the first one packed, and `fields_mk` gives its fields back. -/
theorem unpackOfPackResultReturnsFields : Obligations.UnpackOfPackResultReturnsFields := by
  unfold Obligations.UnpackOfPackResultReturnsFields
  intro f s he hm
  obtain ⟨hsign, hexp, hmant⟩ := fields_mk f s.req.fSign he hm
  set p := mk f s.req.fSign s.req.fExp.toNat s.req.fMant.toNat
  set t := s.drive (ResponsePorts.accepted.withResult f p)
  set s₂ := t.presentResult (encode (Op.unpack f).instr)
  have hpattern₂ : s₂.req.aData.setWidth f.W = p := withResult_rData_setWidth ResponsePorts.accepted f p
  have hu : step s₂ = .next (s₂.drive { ResponsePorts.accepted.withResult f p with
      oSign := sign f p
      oExp := BitVec.ofNat 19 (expf f p)
      oMant := BitVec.ofNat 236 (mantf f p) }) := by
    rw [step_of_encode (State.presentResult_reqValid ..) (State.presentResult_cmd ..), exec_instr_eq_next, perform,
      unpack_of_length f.toNat_ofNat_NB, responseOf_ok, hpattern₂, expPort_eq, mantPort_eq]
  refine ⟨t, _, exec_pack_of_range he hm, hu, rfl, hsign, ?_, ?_⟩
  · rw [State.drive_rsp, hexp, BitVec.ofNat_toNat, BitVec.setWidth_eq]
  · rw [State.drive_rsp, hmant, BitVec.ofNat_toNat, BitVec.setWidth_eq]

/-- Settles O22: each port `CLASS` drives, read as plain numbers. -/
theorem classReportsClassAndPredicates : Obligations.ClassReportsClassAndPredicates := by
  unfold Obligations.ClassReportsClassAndPredicates
  intro f s hlen
  rw [exec_classify_of_length hlen, accepted_withResult, classify_code, isFinite_eq_decide, isInteger_eq_raw,
    ← raw_sign, pattern_toNat]
  rfl

/-- The number of a negated pattern: the sign bit is added where it was 0 and taken away where it was 1. -/
theorem negate_toNat (f : Format) (p : Pattern f) : (negate f p).toNat =
    if p.toNat < 2 ^ (f.W - 1) then p.toNat + 2 ^ (f.W - 1) else p.toNat - 2 ^ (f.W - 1) := by
  have hW : 2 ^ f.W = 2 * 2 ^ (f.W - 1) := by rw [← pow_succ']; congr 1; rw [f.W_eq]; omega
  have hp := toNat_eq_packed f p
  have hneg := toNat_eq_packed f (negate f p)
  have hp_lt := p.isLt
  have hneg_lt := (negate f p).isLt
  rw [sign_negate, expf_negate, mantf_negate] at hneg
  rw [Raw.packed] at hp hneg
  cases hs : sign f p with
  | false =>
    rw [hs, Bool.toNat_false] at hp
    rw [hs, Bool.not_false, Bool.toNat_true] at hneg
    rw [if_pos (by omega)]
    omega
  | true =>
    rw [hs, Bool.toNat_true] at hp
    rw [hs, Bool.not_true, Bool.toNat_false] at hneg
    rw [if_neg (by omega)]
    omega

/-- Only the fields below the sign decide the class. -/
theorem classify_negate (f : Format) (p : Pattern f) : classify f (negate f p) = classify f p := by
  rw [classify, classify, quietBit_eq, quietBit_eq, expf_negate, mantf_negate]

/-- Settles O37: the negated pattern's number, its fields and its class. -/
theorem negFlipsSignBitOnly : Obligations.NegFlipsSignBitOnly := by
  unfold Obligations.NegFlipsSignBitOnly
  intro f s hlen
  refine ⟨?_, sign_negate .., expf_negate .., mantf_negate .., classify_negate ..⟩
  rw [exec_neg_of_length hlen, accepted_withResult, ← State.pattern, negate_toNat, pattern_toNat]
  rfl

end Sys2Proof.Machine
end

section
/-! How many patterns a class has (41_classify.md R107), and the values at the landmarks (R109). Both read a pattern as
`mk` of its fields. -/

namespace Sys2Proof

/-- Fields in range and patterns are in bijection, so a set of exponent fields and one of mantissa fields give two
patterns, one of each sign, for each pair. -/
theorem card_fields_mem (f : Format) {E M : Finset ℕ} (hE : ∀ e ∈ E, e ≤ f.EMAX) (hM : ∀ m ∈ M, m < 2 ^ f.M) :
    (Finset.univ.filter fun p : Pattern f => expf f p ∈ E ∧ mantf f p ∈ M).card = 2 * (E.card * M.card) := by
  rw [← Fintype.card_bool, ← Finset.card_univ, ← Finset.card_product, ← Finset.card_product]
  refine Finset.card_nbij' (fun p => (sign f p, expf f p, mantf f p)) (fun x => mk f x.1 x.2.1 x.2.2) ?_ ?_ ?_ ?_
  · intro p hp
    simpa using hp
  · rintro ⟨s, e, m⟩ hx
    obtain ⟨he, hm⟩ : e ∈ E ∧ m ∈ M := by simpa using hx
    obtain ⟨-, hexp, hmant⟩ := fields_mk f s (hE e he) (hM m hm)
    simp [hexp, hmant, he, hm]
  · exact fun p _ => mk_fields f p
  · rintro ⟨s, e, m⟩ hx
    obtain ⟨he, hm⟩ : e ∈ E ∧ m ∈ M := by simpa using hx
    obtain ⟨hsign, hexp, hmant⟩ := fields_mk f s (hE e he) (hM m hm)
    simp only [hsign, hexp, hmant]

/-- The size of a class given by intervals of its fields. -/
theorem card_class {f : Format} {c : FpClass} {e₀ e₁ m₀ m₁ : ℕ} (he : e₁ ≤ f.EMAX + 1) (hm : m₁ ≤ 2 ^ f.M)
    (hc : ∀ p : Pattern f, classify f p = c ↔ (e₀ ≤ expf f p ∧ expf f p < e₁) ∧ (m₀ ≤ mantf f p ∧ mantf f p < m₁)) :
    (Finset.univ.filter fun p : Pattern f => classify f p = c).card = 2 * ((e₁ - e₀) * (m₁ - m₀)) := by
  rw [← Nat.card_Ico, ← Nat.card_Ico, ← card_fields_mem f]
  · congr 1
    ext p
    rw [Finset.mem_filter_univ, Finset.mem_filter_univ, hc, Finset.mem_Ico, Finset.mem_Ico]
  · intro e h
    have := (Finset.mem_Ico.1 h).2
    omega
  · exact fun m h => (Finset.mem_Ico.1 h).2.trans_le hm

/-- Settles O25: each class is a rectangle of fields. -/
theorem classCountsPerFormat : Obligations.ClassCountsPerFormat := by
  unfold Obligations.ClassCountsPerFormat
  intro f
  have hEMAX := f.EMAX_eq
  have hB := f.B_pos
  have hquiet : 2 ^ f.M = 2 * 2 ^ (f.M - 1) := by
    rw [← pow_succ', Nat.sub_add_cancel]
    have := f.M_ge
    omega
  have hpos : 0 < 2 ^ (f.M - 1) := by positivity
  refine ⟨?_, ?_, ?_, ?_, ?_, ?_⟩
  · rw [card_class (e₀ := 0) (e₁ := 1) (m₀ := 0) (m₁ := 1) (by omega) (by omega)]
    intro p
    rw [classify_zero_iff]
    omega
  · rw [card_class (e₀ := 0) (e₁ := 1) (m₀ := 1) (m₁ := 2 ^ f.M) (by omega) le_rfl, Nat.sub_zero, one_mul]
    intro p
    have := mantf_lt f p
    rw [classify_subnormal_iff]
    omega
  · rw [card_class (e₀ := 1) (e₁ := f.EMAX) (m₀ := 0) (m₁ := 2 ^ f.M) (by omega) le_rfl, Nat.sub_zero, mul_assoc]
    intro p
    have := mantf_lt f p
    rw [classify_normal_iff]
    omega
  · rw [card_class (e₀ := f.EMAX) (e₁ := f.EMAX + 1) (m₀ := 0) (m₁ := 1) le_rfl (by omega), Nat.add_sub_cancel_left]
    intro p
    rw [classify_infinite_iff]
    omega
  · rw [card_class (e₀ := f.EMAX) (e₁ := f.EMAX + 1) (m₀ := 2 ^ (f.M - 1)) (m₁ := 2 ^ f.M) le_rfl le_rfl,
      Nat.add_sub_cancel_left, one_mul]
    · omega
    intro p
    have := mantf_lt f p
    rw [classify_qnan_iff]
    omega
  · rw [card_class (e₀ := f.EMAX) (e₁ := f.EMAX + 1) (m₀ := 1) (m₁ := 2 ^ (f.M - 1)) le_rfl (by omega),
      Nat.add_sub_cancel_left, one_mul]
    intro p
    rw [classify_snan_iff]
    omega

/-- The value of a positive Subnormal with mantissa field `m`. -/
theorem value_mk_subnormal (f : Format) {m : ℕ} (h0 : m ≠ 0) (hm : m < 2 ^ f.M) :
    value f (mk f false 0 m) = some ((m : ℚ) / 2 ^ f.M * 2 ^ (1 - (f.B : ℤ))) := by
  obtain ⟨hsign, hexp, hmant⟩ := fields_mk f false (Nat.zero_le f.EMAX) hm
  rw [value_of_subnormal ((classify_subnormal_iff f _).2 ⟨hexp, by rwa [hmant]⟩), hsign, hmant, signFactor,
    if_neg Bool.false_ne_true, one_mul]

/-- The value of a positive Normal with these fields. -/
theorem value_mk_normal (f : Format) {e m : ℕ} (h0 : 0 < e) (he : e < f.EMAX) (hm : m < 2 ^ f.M) :
    value f (mk f false e m) = some ((1 + (m : ℚ) / 2 ^ f.M) * 2 ^ ((e : ℤ) - f.B)) := by
  obtain ⟨hsign, hexp, hmant⟩ := fields_mk f false he.le hm
  rw [value_of_normal ((classify_normal_iff f _).2 (by rw [hexp]; exact ⟨h0, he⟩)), hsign, hexp, hmant, signFactor,
    if_neg Bool.false_ne_true, one_mul]

/-- Settles O26: the four values, each brought to its power of two. -/
theorem landmarkValues : Obligations.LandmarkValues := by
  unfold Obligations.LandmarkValues
  intro f
  have hEMAX := f.EMAX_eq
  have hB := f.B_pos
  have hM : 1 < 2 ^ f.M := Nat.one_lt_two_pow (by have := f.M_ge; omega)
  refine ⟨?_, ?_, ?_, ?_⟩
  · rw [value_mk_subnormal f one_ne_zero hM, subnormal_magnitude, Nat.cast_one, one_mul]
  · rw [value_mk_normal f one_pos (by omega) (by omega)]
    simp
  · rw [value_mk_normal f hB (by omega) (by omega)]
    simp
  · have hexp : ((f.EMAX - 1 : ℕ) : ℤ) - f.B = (f.B : ℕ) := by omega
    rw [value_mk_normal f (by omega) (by omega) (by omega), hexp, zpow_natCast, Nat.cast_sub hM.le, Nat.cast_pow,
      zpow_neg, zpow_natCast]
    congr 2
    push_cast
    field_simp
    ring

end Sys2Proof
end

section
/-! The class of a narrowed Normal by its exponent field (42_convert.md R130, R133). -/

namespace Sys2Proof.Machine

variable {sf df : Format} {p : Pattern sf}

theorem classify_narrow_of_normal_range (h : df.W < sf.W) (hc : classify sf p = .normal)
    (hlow : sf.B + 1 ≤ expf sf p + df.B) (hhigh : expf sf p + df.B < df.EMAX + sf.B) :
    classify df (narrow sf df p) = .normal := by
  rw [classify_normal_iff, (narrow_fields_of_normal_range h hc hlow hhigh).1]
  omega

/-- Below the destination's Normals the implicit 1 is shifted to bit e − (D − M′) − 1 of the mantissa field, so the
result is Zero exactly when it is shifted out. -/
theorem classify_narrow_of_low_range (h : df.W < sf.W) (hc : classify sf p = .normal)
    (hlow : expf sf p + df.B < sf.B + 1) :
    classify df (narrow sf df p) = if sf.B + 1 ≤ expf sf p + df.B + df.M then .subnormal else .zero := by
  obtain ⟨-, hM, -⟩ := Format.wider h
  obtain ⟨he, hm⟩ := narrow_fields_of_low_range h hc hlow
  rw [Nat.shiftRight_eq_div_pow] at hm
  split_ifs with hkept
  · refine (classify_subnormal_iff df _).2 ⟨he, ?_⟩
    rw [hm]
    refine (Nat.div_pos (le_trans ?_ (Nat.le_add_right _ _)) (by positivity)).ne'
    exact Nat.pow_le_pow_right two_pos (by omega)
  · refine (classify_zero_iff df _).2 ⟨he, ?_⟩
    rw [hm]
    apply Nat.div_eq_of_lt
    calc 2 ^ sf.M + mantf sf p < 2 ^ (sf.M + 1) := by have := mantf_lt sf p; rw [pow_succ]; omega
      _ ≤ 2 ^ (sf.M - df.M + (1 + sf.B - (expf sf p + df.B))) := Nat.pow_le_pow_right two_pos (by omega)

/-- The class of a narrowed Normal by the four ranges of its exponent field, which follow each other downward. -/
theorem classify_narrow_by_range (h : df.W < sf.W) (hc : classify sf p = .normal) : classify df (narrow sf df p) =
    if df.EMAX + sf.B ≤ expf sf p + df.B then .infinite
    else if sf.B + 1 ≤ expf sf p + df.B then .normal
    else if sf.B + 1 ≤ expf sf p + df.B + df.M then .subnormal
    else .zero := by
  by_cases hhigh : df.EMAX + sf.B ≤ expf sf p + df.B
  · rw [if_pos hhigh, classify_narrow_of_overflow ((classify_normal_iff sf p).1 hc).2 hhigh]
  rw [if_neg hhigh]
  by_cases hlow : sf.B + 1 ≤ expf sf p + df.B
  · rw [if_pos hlow, classify_narrow_of_normal_range h hc hlow (Nat.lt_of_not_le hhigh)]
  · rw [if_neg hlow, classify_narrow_of_low_range h hc (Nat.lt_of_not_le hlow)]

/-- Settles O33: the ranges of `classify_narrow_by_range` do not overlap, so each class has its own. -/
theorem narrowingOutcomeByExponentRange : Obligations.NarrowingOutcomeByExponentRange := by
  unfold Obligations.NarrowingOutcomeByExponentRange
  intro sf df s h hlen hc
  obtain ⟨-, -, hB⟩ := Format.wider h
  have hEMAX := df.EMAX_eq
  obtain ⟨t, ht, hresult⟩ := exists_exec_cvt_result sf df hlen
  refine ⟨by omega, t, ht, ?_⟩
  rw [hresult, convert_of_narrower h, classify_narrow_by_range h hc]
  split_ifs <;> simp only [true_iff, false_iff] <;> omega

end Sys2Proof.Machine
end

section
/-! The pipelined implementation (70_reset_and_hazards.md R180, R185). -/

namespace Sys2Proof.Machine

/-- A cycle shows the oldest of the responses in flight and the one computed now, and keeps the others in order. -/
theorem Pipe.clock_eq_cons (q : RequestPorts) (p : Pipe) :
    (p.clock false q).1 :: (p.clock false q).2.stages.reverse = p.stages.reverse ++ [respond q] := by
  have hne : respond q :: p.stages ≠ [] := List.cons_ne_nil _ _
  have hlast : (respond q :: p.stages).getLastD .idle = (respond q :: p.stages).getLast hne := rfl
  have hclock : p.clock false q =
      ((respond q :: p.stages).getLastD .idle, { stages := (respond q :: p.stages).dropLast }) := rfl
  rw [hclock, hlast, ← List.reverse_cons]
  conv_rhs => rw [← List.dropLast_append_getLast hne, List.reverse_append]
  rfl

/-- Without a reset the responses in flight are shown oldest first, and after them those of the requests. -/
theorem Pipe.run_of_no_reset (qs : List RequestPorts) (p : Pipe) :
    Pipe.run (qs.map fun q => (false, q)) p = (p.stages.reverse ++ qs.map respond).take qs.length := by
  induction qs generalizing p with
  | nil => rfl
  | cons q qs ih =>
    rw [List.map_cons, List.map_cons, Pipe.run, ih, List.append_cons, ← Pipe.clock_eq_cons, List.cons_append,
      List.length_cons, List.take_succ_cons]

/-- After any cycles the run goes on from a pipeline of the same latency. -/
theorem Pipe.exists_drop_run (before rest : List (Bool × RequestPorts)) (p : Pipe) :
    ∃ p' : Pipe, p'.latency = p.latency ∧ (Pipe.run (before ++ rest) p).drop before.length = Pipe.run rest p' := by
  induction before generalizing p with
  | nil => exact ⟨p, rfl, rfl⟩
  | cons cycle before ih =>
    obtain ⟨p', hlatency, hrun⟩ := ih (p.clock cycle.1 cycle.2).2
    exact ⟨p', hlatency.trans (Pipe.latency_clock ..), hrun⟩

/-- Settles O42: nothing is in flight at first but idle responses, one for each cycle of latency. -/
theorem pipelineDelaysByLatency : Obligations.PipelineDelaysByLatency := by
  unfold Obligations.PipelineDelaysByLatency
  intro latency qs
  rw [Pipe.run_of_no_reset, Pipe.empty, List.reverse_replicate]

/-- Settles O43: the cycle of reset empties whatever pipeline it meets, and from there O42 goes on. -/
theorem pipelineResetDropsRequests : Obligations.PipelineResetDropsRequests := by
  unfold Obligations.PipelineResetDropsRequests
  intro before q qs p
  obtain ⟨p', hlatency, hrun⟩ := Pipe.exists_drop_run before ((true, q) :: qs.map fun q => (false, q)) p
  rw [hrun, Pipe.run, Pipe.clock_reset, hlatency, pipelineDelaysByLatency]

end Sys2Proof.Machine
end

section
/-! The assembler (30_encoding.md R66): which ports a line sets. -/

namespace Sys2Proof.Machine

/-- Settles O44: seven closed lines, parsed. -/
theorem assemblerReadsWrittenOutLines : Obligations.AssemblerReadsWrittenOutLines := by
  unfold Obligations.AssemblerReadsWrittenOutLines
  decide

/-- A buffer argument sets `a_len` and `a_data` alone. -/
theorem exists_of_load {env : Collected} {q q' : RequestPorts} {a : BufferArg} (h : a.load env q = some q') :
    ∃ len data, q' = { q with aLen := len, aData := data } := by
  cases a with
  | bytes bs =>
    obtain ⟨-, h⟩ := Option.ite_none_right_eq_some.1 h
    obtain rfl := Option.some.inj h
    exact ⟨_, _, rfl⟩
  | resultOf k =>
    obtain ⟨r, -, rfl⟩ := Option.map_eq_some_iff.1 h
    exact ⟨_, _, rfl⟩

/-- The arguments of `PACK` set the pack ports alone. -/
theorem exists_of_withFields {q q' : RequestPorts} {s e m : Nat} (h : q.withFields s e m = some q') :
    ∃ sign exp mant, q' = { q with fSign := sign, fExp := exp, fMant := mant } := by
  obtain ⟨-, h⟩ := Option.ite_none_right_eq_some.1 h
  obtain rfl := Option.some.inj h
  exact ⟨_, _, _, rfl⟩

/-- A line with a buffer argument runs the instruction of its command word and leaves the pack ports 0. -/
theorem step_of_load {env : Collected} {a : BufferArg} {o : Op} {q : RequestPorts} (s : State)
    (h : a.load env (.command (encode o.instr)) = some q) :
    step (s.present q) = exec o.instr (s.present q) ∧ q.fSign = false ∧ q.fExp = 0 ∧ q.fMant = 0 := by
  obtain ⟨len, data, rfl⟩ := exists_of_load h
  exact ⟨step_of_encode rfl rfl, rfl, rfl, rfl⟩

/-- A `PACK` line that assembles has three arguments with numbers that fit the ports. -/
theorem exists_withFields_of_assemble_pack {env : Collected} {f : Format} {x y z : NumberArg} {q : RequestPorts}
    (h : assemble env (.pack f x y z) = some q) :
    ∃ s e m, (RequestPorts.command (encode (Op.pack f).instr)).withFields s e m = some q := by
  rw [assemble] at h
  split at h
  · exact ⟨_, _, _, h⟩
  · nomatch h

/-- Settles O45: every line but `PACK` loads a buffer, and each presents the command word of its own operation. -/
theorem assembledLineRunsItsInstruction : Obligations.AssembledLineRunsItsInstruction := by
  unfold Obligations.AssembledLineRunsItsInstruction
  intro f g a x y z env q s
  refine ⟨step_of_load s, step_of_load s, step_of_load s, step_of_load s, fun h => ?_⟩
  obtain ⟨_, _, _, hfields⟩ := exists_withFields_of_assemble_pack h
  obtain ⟨_, _, _, rfl⟩ := exists_of_withFields hfields
  exact ⟨step_of_encode rfl rfl, rfl, rfl⟩

end Sys2Proof.Machine
end
